-- ==== Sys2Proof/Word.lean ====
section
/-! DEFINITION. The widths and index ranges of the WD64: bytes of the management port, addresses of the
expansion bus, data words of the claim channels, and the numbers of masters, devices and slots. -/

namespace Sys2Proof

/-- One byte on `MD[7:0]`. -/
abbrev Byte := BitVec 8

/-- A byte address of the 24-bit expansion bus (00_scope.md, CONVENTIONS). -/
abbrev Address := BitVec 24

/-- Four byte lanes, the lowest-order lane in bits 7..0 (R42). -/
abbrev DataWord := BitVec 32

/-- A bus master, M0 to M3. -/
abbrev Master := Fin 4

/-- A device position, D0 to D15. -/
abbrev Device := Fin 16

/-- A slot of the directory, 0 to 63 (R1). -/
abbrev SlotId := Fin 64

/-- A slot's generation, 0 to 254; adding one to 254 gives 0 (R10). -/
abbrev Generation := Fin 255

end Sys2Proof
end

