-- ==== Sys2Proof/Config.lean ====
section
/-! DEFINITION. The values the spec leaves open. -/

namespace Sys2Proof

/-- The byte seen on `MD[7:0]` when the data location is read while PORN is low: "a read of either port
location returns no defined value" (R129). The argument is the state's `freeCount`, so that every such read
has a value of its own. Nothing constrains it. -/
opaque Config.undefinedByte : Nat → Byte

/-- The byte seen on `MD[7:0]` when the command/status location is read while PORN is low: "a read of either port
location returns no defined value" (R129). The argument numbers the reads, so that every such read has a value of
its own. Nothing constrains it (assumption 8). -/
opaque Config.undefinedStatusByte : Nat → Byte

end Sys2Proof
end

