-- ==== Sys2Proof/Syntax.lean ====
section
/-! DEFINITION. The commands of the WD64: one constructor of `Instr` for each row of spec/opcode_table.json,
with the signals or the parameter bytes that the spec gives the event. The parameter bytes of a management
command are raw bytes: a value out of range is a command like any other, which the decoder refuses (R159). -/

namespace Sys2Proof

/-- The direction of an access; CDIR low names READ and CDIR high WRITE (R27). -/
inductive Direction where
  | read
  | write
deriving DecidableEq, Repr

/-- A device's response: the number of the device cycle it answers (assumption 18), and the data on DD (R43). -/
structure Response where
  cycle : Nat
  dd : DataWord
deriving DecidableEq, Repr

/-- The events and management commands of the WD64. -/
inductive Instr where
  /-- CREQ of a master presents an access: CADR, CDIR, CWID, CWD (R27, R30). -/
  | claimArrival (master : Master) (address : Address) (direction : Direction) (width : BitVec 2) (data : DataWord)
  /-- The arbiter's grant of the device-side bus (R40). -/
  | grant
  /-- A device's response on DRDY (R43). -/
  | completion (response : Response)
  /-- One tick of the timebase (R57). -/
  | tick
  /-- The expiry of a device's wake timer, with the level of PGD at that moment (R63, R64). -/
  | wakeTimerExpiry (device : Device) (pgd : Bool)
  /-- The expiry of a device's idle timer (R67). -/
  | idleTimerExpiry (device : Device)
  /-- The expiry of the hold timer of a master's claim (R87). -/
  | holdTimerExpiry (master : Master)
  /-- The expiry of the intercept timer of a master's claim (R105). -/
  | interceptTimerExpiry (master : Master)
  /-- PGD of a device changes from the level its sense expects to the other one (R54, R71). -/
  | departureFromConformity (device : Device)
  /-- PORN goes low (R129). -/
  | powerOnReset
  /-- PORN goes high, with the levels of the strap inputs (R130, R131). -/
  | endOfPowerOnReset (bsz bwt bpg : BitVec 2)
  /-- BRST goes from deasserted to asserted (R50). -/
  | busReset
  /-- A write of the command/status location (R150, R156). -/
  | commandByte (byte : Byte)
  /-- A write of the data location (R152, R155). -/
  | parameterByte (byte : Byte)
  /-- A read of the data location (R154, R155). -/
  | replyByteRead
  /-- A command byte that names no command (R151). -/
  | unknownCommand (code : Byte)
  /-- 01h (R161). -/
  | identify
  /-- 10h (R162). -/
  | defineDevice (device wakeTime : Byte) (idleLimit : BitVec 16) (options : Byte)
  /-- 11h (R61, R163). -/
  | forgetDevice (device : Byte)
  /-- 12h (R65, R163). -/
  | wakeDevice (device : Byte)
  /-- 13h (R68, R163). -/
  | parkDevice (device : Byte)
  /-- 14h (R72, R163). -/
  | clearFault (device : Byte)
  /-- 15h (R164). -/
  | readDevice (device : Byte)
  /-- 20h (R165). -/
  | openWindow (slot : Byte) (base : Address) (size precedence device waits permissions options : Byte)
  /-- 21h (R165). -/
  | openRelocatedWindow (slot : Byte) (base : Address) (size precedence device waits permissions options : Byte)
      (relocation : Address)
  /-- 22h (R166). -/
  | amendWindow (slot generation precedence waits permissions watch : Byte)
  /-- 23h (R167). -/
  | retireWindow (slot generation staged : Byte)
  /-- 24h (R168). -/
  | readWindow (slot clear : Byte)
  /-- 28h (R122, R169). -/
  | publish
  /-- The completion event of a PUBLISH (R124). -/
  | publishCompletion
  /-- 29h (R126, R169). -/
  | discard
  /-- 30h (R170). -/
  | probe (master direction width : Byte) (address : Address)
  /-- 40h (R171). -/
  | interceptInfo
  /-- 41h with verdict 00h (R102, R172). -/
  | verdictPass (master : Byte) (data : DataWord)
  /-- 41h with verdict 01h (R103, R172). -/
  | verdictRefuse (master : Byte) (data : DataWord)
  /-- 41h with verdict 02h (R104, R172). -/
  | verdictSupply (master : Byte) (data : DataWord)
  /-- 50h (R127, R173). -/
  | setMissPolicy (policy device waits : Byte)
  /-- 51h (R174). -/
  | setLimits (hold intercept : Byte)
  /-- 60h (R141, R175). -/
  | setNotifyMask (mask : Byte)
  /-- 61h (R144, R175). -/
  | readNotify
  /-- 62h (R140, R175). -/
  | clearNotify (flags : Byte)
  /-- 7Fh (R134, R176). -/
  | softReset
  /-- The completion event of a SOFT RESET (R135). -/
  | softResetCompletion
deriving DecidableEq, Repr

/-- The commands of Table 10-1, by name. -/
inductive CommandCode where
  | identify | defineDevice | forgetDevice | wakeDevice | parkDevice | clearFault | readDevice
  | openWindow | openRelocatedWindow | amendWindow | retireWindow | readWindow
  | publish | discard | probe | interceptInfo | verdict
  | setMissPolicy | setLimits | setNotifyMask | readNotify | clearNotify | softReset
deriving DecidableEq, Repr

end Sys2Proof
end

