-- ==== Sys2Proof/Machine/State.lean ====
section
/-! DEFINITION. The state of the WD64: the window directory, the claim unit and the lists of claims, the
device records, the timebase, the notification unit, the management port, the latched straps, the outputs
of the event last taken, and the queue of commands that are waiting. -/

namespace Sys2Proof.Machine

/-! ## Timers -/

/-- A running timer (R58). `left` is the remaining count, which reads at least 1 until the expiry is taken.
`due` says that the tick which lowers it to 0 has come and its expiry event is still to be taken
(assumption 3). A stopped timer is `none`. -/
structure Timer where
  left : Nat
  due : Bool
deriving DecidableEq, Repr

/-! ## The window directory (Table 1-1) -/

/-- The five slot states (R1). -/
inductive SlotState where
  | free | staged | live | marked | draining
deriving DecidableEq, Repr

/-- How a slot's present or last window was made (R9). -/
inductive Origin where
  | strap | command
deriving DecidableEq, Repr

/-- Which claims through a window are intercepted (R8). -/
inductive Watch where
  | off | writes | all
deriving DecidableEq, Repr

/-- One slot of the directory with its window record; the slot's number is its index (R1). -/
structure Slot where
  state : SlotState
  origin : Origin
  base : Address
  /-- The exponent k: the window spans 2^k bytes (R2). -/
  size : Nat
  precedence : Fin 8
  device : Device
  waits : Fin 16
  /-- Bit 2m is the read grant of master m, bit 2m+1 its write grant (R7, Table 10-2). -/
  permissions : Byte
  watch : Watch
  relocation : Option Address
  generation : Generation
  touched : Bool
  /-- The bound count (R12). -/
  bound : Nat
deriving DecidableEq, Repr

/-- What happens to a claim whose two ends miss (R23). -/
inductive MissPolicy where
  | abort | fallback
deriving DecidableEq, Repr

/-! ## Claims (Table 2-1) -/

/-- The number of bytes of an access: 1, 2 or 4 (R27). -/
inductive Width where
  | one | two | four
deriving DecidableEq, Repr

/-- What decided a claim (R32, R33). -/
inductive Binding where
  | fallback
  | slot (n : SlotId) (generation : Generation)
deriving DecidableEq, Repr

/-- Where a claim in flight is (R29). -/
inductive Phase where
  | intercept | held | ready | active
deriving DecidableEq, Repr

/-- The part of a claim record that keeps its values for the whole flight: the arrival values, the binding
and the snapshot (R28, R34). -/
structure Access where
  address : Address
  direction : Direction
  width : Width
  /-- The bytes to write, lowest-order lane first; absent for a READ. -/
  writeData : Option (List Byte)
  binding : Binding
  device : Device
  waits : Fin 16
  forwarded : Address
deriving DecidableEq, Repr

/-- A claim in flight; the master is the record's index (R28). -/
structure Claim where
  access : Access
  phase : Phase
  timer : Option Timer
  verdictData : Option DataWord
deriving DecidableEq, Repr

/-- The device cycle in progress: the ACTIVE claim's master, and the pins the arbiter drives (R41).
`sel` is the one SEL output asserted; `dd` holds the bytes of a WRITE, lowest-order lane first (R42). -/
structure DeviceCycle where
  /-- How many cycles had begun before this one: the model's own, by which a response is known to answer this cycle
  and no later one (R43, assumption 18). -/
  number : Nat
  master : Master
  sel : Device
  da : Address
  drw : Direction
  dd : Option (List Byte)
  waits : Fin 16
deriving DecidableEq, Repr

/-- The reason codes of Table 2-5. -/
inductive Reason where
  | done | supplied | miss | straddle | denied | asleep | deviceFault | holdTimeout | refused
  | interceptTimeout | reset
deriving DecidableEq, Repr

/-- An answer on the channel of a master: CANS asserted, the reason on CRSN, the data on CRD (R44). -/
structure Answer where
  master : Master
  reason : Reason
  data : DataWord
deriving DecidableEq, Repr

/-! ## Devices (Table 3-1) -/

/-- The residencies of R52. -/
inductive Residency where
  | absent | off | waking | on | parking | fault
deriving DecidableEq, Repr

/-- The power-good senses of R54. -/
inductive Sense where
  | ignore | high | low
deriving DecidableEq, Repr

/-- Why a device is in FAULT (Table 3-1). -/
inductive FaultCause where
  | none | noPowerGood | powerLost
deriving DecidableEq, Repr

/-- One device record, with the output PEN of the device (R51, R53, Table 3-5). -/
structure DeviceRecord where
  residency : Residency
  wakeTime : Nat
  idleLimit : Nat
  idleTimer : Option Timer
  wakeTimer : Option Timer
  autoWake : Bool
  sense : Sense
  refCount : Nat
  heldCount : Nat
  faultCause : FaultCause
  pen : Bool
deriving DecidableEq, Repr

/-! ## Notification -/

/-- The five cause flags (R139); the enable mask has the same shape (R141). -/
structure CauseFlags where
  intercept : Bool
  fault : Bool
  timeout : Bool
  done : Bool
  port : Bool
deriving DecidableEq, Repr

/-! ## The management port -/

/-- The operations that take time (R153). -/
inductive LongOp where
  | publish | softReset
deriving DecidableEq, Repr

/-- The port's condition, with the command record, the operation in progress or the unread reply bytes that
go with it (R148). -/
inductive PortCondition where
  | idle
  | collecting (code : CommandCode) (params : List Byte)
  | executing (op : LongOp) (timer : Timer)
  | replying (bytes : List Byte)
deriving DecidableEq, Repr

/-- The management port: its condition and the error fields of the status byte (R157). -/
structure Port where
  condition : PortCondition
  orphan : Bool
  collision : Bool
  abandoned : Bool
deriving DecidableEq, Repr

/-- The strap inputs as latched (R130). -/
structure Straps where
  bsz : BitVec 2
  bwt : BitVec 2
  bpg : BitVec 2
deriving DecidableEq, Repr

/-! ## The whole state -/

/-- The WD64. -/
structure State where
  slots : Vector Slot 64
  missPolicy : MissPolicy
  fallbackDevice : Device
  fallbackWaits : Fin 16
  claims : Vector (Option Claim) 4
  interceptList : List Master
  holdList : List Master
  readyList : List Master
  cycle : Option DeviceCycle
  /-- The model's own: how many device cycles have begun, which numbers the next one (assumption 18). -/
  cyclesBegun : Nat
  devices : Vector DeviceRecord 16
  /-- PGD of each device as last sampled at an event that reads it (R54, assumption 6). -/
  pgd : Vector Bool 16
  holdLimit : Nat
  interceptLimit : Nat
  /-- The timed-out-unanswered markers (R106). -/
  markers : Vector Bool 4
  divider : Nat
  flags : CauseFlags
  mask : CauseFlags
  /-- The notify gate; true is open (R142). -/
  gate : Bool
  port : Port
  straps : Straps
  /-- PORN is low (R129). -/
  inReset : Bool
  /-- The answers given in the event last taken, in the order given (assumption 7). -/
  answers : List Answer
  /-- The byte driven on MD by the event last taken (assumption 7). -/
  md : Option Byte
  /-- The devices whose PEN was deasserted and asserted again in the event last taken (R53, assumption 7). -/
  penPulses : List Device
  /-- The model's own: picks a fresh free value (assumption 8). -/
  freeCount : Nat
  /-- The model's own: the commands waiting, first in, first out (assumption 11). -/
  pending : List Instr
deriving DecidableEq, Repr

/-- The reasons a run can stop with a fault. The spec gives the controller none: every event and every
command has its effect in every state, so there is no constructor. -/
inductive Fault : Type where
deriving DecidableEq, Repr

/-- The reasons a command can be refused. -/
inductive Refusal where
  /-- Raised by an arm of `exec` whose command has no meaning yet; no arm raises it now. Safe. -/
  | notModelled (mnemonic : String)
deriving DecidableEq, Repr

/-- What a command answers. -/
abbrev Result := Host.Outcome State Fault Refusal

/-! ## Accessors -/

/-- The slot of a number. -/
def State.slot (s : State) (n : SlotId) : Slot := s.slots[n]

/-- The device record of a number. -/
def State.device (s : State) (d : Device) : DeviceRecord := s.devices[d]

/-- The claim record of a channel, `none` when it is empty. -/
def State.claim (s : State) (m : Master) : Option Claim := s.claims[m]

/-- The timed-out-unanswered marker of a master. -/
def State.marker (s : State) (m : Master) : Bool := s.markers[m]

/-- PGD of a device as last sampled. -/
def State.pgdLevel (s : State) (d : Device) : Bool := s.pgd[d]

/-! ## Reset -/

/-- A slot that has held no window since power-on reset (Table 1-7, slots 1 to 63). -/
def Slot.blank : Slot :=
  { state := .free, origin := .command, base := 0x000000#24, size := 8, precedence := 0, device := 0,
    waits := 0, permissions := 0x00#8, watch := .off, relocation := none, generation := 0, touched := false,
    bound := 0 }

/-- A device record after power-on reset (Table 3-5, D1 to D15). -/
def DeviceRecord.blank : DeviceRecord :=
  { residency := .absent, wakeTime := 1, idleLimit := 0, idleTimer := none, wakeTimer := none,
    autoWake := false, sense := .ignore, refCount := 0, heldCount := 0, faultCause := .none, pen := false }

/-- No cause flag set, and no cause enabled. -/
def CauseFlags.clear : CauseFlags :=
  { intercept := false, fault := false, timeout := false, done := false, port := false }

/-- The port IDLE with its error fields clear (R158). -/
def Port.idle : Port :=
  { condition := .idle, orphan := false, collision := false, abandoned := false }

/-- The machine right after the end of power-on reset (R131) with the strap inputs low (assumption 1): slot 0
holds the 64 KiB boot window and D0 is waking. -/
def State.reset : State :=
  { slots := (Vector.replicate 64 Slot.blank).set 0
      { state := .live, origin := .strap, base := 0xFF0000#24, size := 16, precedence := 0, device := 0,
        waits := 0, permissions := 0x55#8, watch := .off, relocation := none, generation := 0,
        touched := false, bound := 0 },
    missPolicy := .abort, fallbackDevice := 0, fallbackWaits := 0,
    claims := Vector.replicate 4 none,
    interceptList := [], holdList := [], readyList := [], cycle := none, cyclesBegun := 0,
    devices := (Vector.replicate 16 DeviceRecord.blank).set 0
      { residency := .waking, wakeTime := 16, idleLimit := 0, idleTimer := none,
        wakeTimer := some { left := 16, due := false }, autoWake := true, sense := .ignore, refCount := 1,
        heldCount := 0, faultCause := .none, pen := true },
    pgd := Vector.replicate 16 false,
    holdLimit := 50, interceptLimit := 20, markers := Vector.replicate 4 false, divider := 0,
    flags := .clear, mask := .clear, gate := false, port := .idle,
    straps := { bsz := 0#2, bwt := 0#2, bpg := 0#2 }, inReset := false,
    answers := [], md := none, penPulses := [], freeCount := 0, pending := [] }

end Sys2Proof.Machine
end

