-- ==== Sys2Proof/Machine/Flags.lean ====
section
/-! DEFINITION. The cause flags, the MIRQ output and the status byte (chapters 8 and 9). -/

namespace Sys2Proof.Machine

/-- The five causes (R139). -/
inductive Cause where
  | intercept | fault | timeout | done | port
deriving DecidableEq, Repr

/-- Set one cause flag; a flag already set stays set (R139). -/
def CauseFlags.raise (f : CauseFlags) : Cause → CauseFlags
  | .intercept => { f with intercept := true }
  | .fault => { f with fault := true }
  | .timeout => { f with timeout := true }
  | .done => { f with done := true }
  | .port => { f with port := true }

/-- At least one flag is set. -/
def CauseFlags.any (f : CauseFlags) : Bool :=
  f.intercept || f.fault || f.timeout || f.done || f.port

/-- The flags that are also enabled. -/
def CauseFlags.both (f g : CauseFlags) : CauseFlags :=
  { intercept := f.intercept && g.intercept, fault := f.fault && g.fault, timeout := f.timeout && g.timeout,
    done := f.done && g.done, port := f.port && g.port }

/-- The flags that the second set does not name (R140). -/
def CauseFlags.without (f g : CauseFlags) : CauseFlags :=
  { intercept := f.intercept && !g.intercept, fault := f.fault && !g.fault,
    timeout := f.timeout && !g.timeout, done := f.done && !g.done, port := f.port && !g.port }

/-- The flag byte of Table 10-2. -/
def CauseFlags.toByte (f : CauseFlags) : Byte :=
  BitVec.ofBool false ++ BitVec.ofBool false ++ BitVec.ofBool false ++ BitVec.ofBool f.port ++
    BitVec.ofBool f.done ++ BitVec.ofBool f.timeout ++ BitVec.ofBool f.fault ++ BitVec.ofBool f.intercept

/-- The flags a flag byte names, or `none` when a bit of 7..5 is set (R160, R175). -/
def CauseFlags.ofByte (b : Byte) : Option CauseFlags :=
  if b.getLsbD 5 || b.getLsbD 6 || b.getLsbD 7 then none
  else some { intercept := b.getLsbD 0, fault := b.getLsbD 1, timeout := b.getLsbD 2, done := b.getLsbD 3,
              port := b.getLsbD 4 }

/-- Raise a cause in the notification unit, whatever the mask and the gate hold (R139). -/
def raise (c : Cause) (s : State) : State := { s with flags := s.flags.raise c }

/-- MIRQ: the gate is open and a flag is both set and enabled (R143). -/
def State.mirq (s : State) : Bool := s.gate && (s.flags.both s.mask).any

/-- PARAM_WANTED, bit 0 of the status byte: the port is COLLECTING (R149). -/
def Port.paramWanted (p : Port) : Bool :=
  match p.condition with
  | .collecting _ _ => true
  | .idle | .executing _ _ | .replying _ => false

/-- REPLY_READY, bit 1: the port is REPLYING (R149). -/
def Port.replyReady (p : Port) : Bool :=
  match p.condition with
  | .replying _ => true
  | .idle | .executing _ _ | .collecting _ _ => false

/-- BUSY, bit 2: the port is EXECUTING (R149). -/
def Port.busy (p : Port) : Bool :=
  match p.condition with
  | .executing _ _ => true
  | .idle | .replying _ | .collecting _ _ => false

/-- The fields of the status byte (R149, Table 9-2). -/
def State.statusFields (s : State) : Byte :=
  BitVec.ofBool false ++ BitVec.ofBool s.port.abandoned ++ BitVec.ofBool s.port.collision ++
    BitVec.ofBool s.port.orphan ++ BitVec.ofBool s.flags.any ++ BitVec.ofBool s.port.busy ++
    BitVec.ofBool s.port.replyReady ++ BitVec.ofBool s.port.paramWanted

/-- The status byte as a read of the command/status location returns it (R149). While PORN is low the byte is not
defined (R129, R158): a free value, picked by the number the reader gives its read (assumption 8). -/
def State.statusByte (s : State) (read : Nat) : Byte :=
  if s.inReset then Config.undefinedStatusByte read else s.statusFields

end Sys2Proof.Machine
end

