-- ==== Sys2Proof/Decode.lean ====
section
/-! DEFINITION. The command codes of Table 10-1, and the host's word decoder. No row of the opcode table
gives bits, so no word spells a command. -/

namespace Sys2Proof

/-- The command a code names, or `none` for a code that names no command (Table 10-1, R151). -/
def CommandCode.ofByte (b : Byte) : Option CommandCode :=
  match b.toNat with
  | 0x01 => some .identify
  | 0x10 => some .defineDevice
  | 0x11 => some .forgetDevice
  | 0x12 => some .wakeDevice
  | 0x13 => some .parkDevice
  | 0x14 => some .clearFault
  | 0x15 => some .readDevice
  | 0x20 => some .openWindow
  | 0x21 => some .openRelocatedWindow
  | 0x22 => some .amendWindow
  | 0x23 => some .retireWindow
  | 0x24 => some .readWindow
  | 0x28 => some .publish
  | 0x29 => some .discard
  | 0x30 => some .probe
  | 0x40 => some .interceptInfo
  | 0x41 => some .verdict
  | 0x50 => some .setMissPolicy
  | 0x51 => some .setLimits
  | 0x60 => some .setNotifyMask
  | 0x61 => some .readNotify
  | 0x62 => some .clearNotify
  | 0x7F => some .softReset
  | _ => none

/-- The code of a command (Table 10-1). -/
def CommandCode.toByte : CommandCode → Byte
  | .identify => 0x01#8
  | .defineDevice => 0x10#8
  | .forgetDevice => 0x11#8
  | .wakeDevice => 0x12#8
  | .parkDevice => 0x13#8
  | .clearFault => 0x14#8
  | .readDevice => 0x15#8
  | .openWindow => 0x20#8
  | .openRelocatedWindow => 0x21#8
  | .amendWindow => 0x22#8
  | .retireWindow => 0x23#8
  | .readWindow => 0x24#8
  | .publish => 0x28#8
  | .discard => 0x29#8
  | .probe => 0x30#8
  | .interceptInfo => 0x40#8
  | .verdict => 0x41#8
  | .setMissPolicy => 0x50#8
  | .setLimits => 0x51#8
  | .setNotifyMask => 0x60#8
  | .readNotify => 0x61#8
  | .clearNotify => 0x62#8
  | .softReset => 0x7F#8

/-- The number of parameter bytes a code fixes (Table 10-1). -/
def CommandCode.paramCount : CommandCode → Nat
  | .identify => 0
  | .defineDevice => 5
  | .forgetDevice => 1
  | .wakeDevice => 1
  | .parkDevice => 1
  | .clearFault => 1
  | .readDevice => 1
  | .openWindow => 10
  | .openRelocatedWindow => 13
  | .amendWindow => 6
  | .retireWindow => 3
  | .readWindow => 2
  | .publish => 0
  | .discard => 0
  | .probe => 6
  | .interceptInfo => 0
  | .verdict => 6
  | .setMissPolicy => 3
  | .setLimits => 2
  | .setNotifyMask => 1
  | .readNotify => 0
  | .clearNotify => 1
  | .softReset => 0

/-- The command that a word spells by the table's bits: no row gives bits, so none. -/
def decodeTableWord (_nbits _w : Nat) : Option Instr := none

end Sys2Proof
end

