-- ==== Sys2Proof/Machine/Operands.lean ====
section
/-! DEFINITION. The value encodings of R160 and Table 10-2: reading parameter bytes with their ranges,
writing reply bytes, and the byte lanes of R42. -/

namespace Sys2Proof.Machine

/-! ## Reading parameters: `none` is out of range -/

/-- A number below `n`. -/
def readFin (n : Nat) (b : Byte) : Option (Fin n) :=
  if h : b.toNat < n then some ⟨b.toNat, h⟩ else none

/-- A number of ticks from 1 to 250 (R162, R174). -/
def readTicks (b : Byte) : Option Nat :=
  if 1 ≤ b.toNat ∧ b.toNat ≤ 250 then some b.toNat else none

/-- An idle limit from 0 to 60000 (R162). -/
def readIdleLimit (w : BitVec 16) : Option Nat :=
  if w.toNat ≤ 60000 then some w.toNat else none

/-- A size exponent from 8 to 20 (R2). -/
def readSize (b : Byte) : Option Nat :=
  if 8 ≤ b.toNat ∧ b.toNat ≤ 20 then some b.toNat else none

/-- 00h no, 01h yes. -/
def readYesNo (b : Byte) : Option Bool :=
  if b = 0x00#8 then some false else if b = 0x01#8 then some true else none

/-- 00h READ, 01h WRITE. -/
def readDirection (b : Byte) : Option Direction :=
  if b = 0x00#8 then some .read else if b = 0x01#8 then some .write else none

/-- 01h, 02h, 04h. -/
def readWidth (b : Byte) : Option Width :=
  if b = 0x01#8 then some .one else if b = 0x02#8 then some .two else if b = 0x04#8 then some .four else none

/-- 00h OFF, 01h WRITES, 02h ALL. -/
def readWatch (b : Byte) : Option Watch :=
  if b = 0x00#8 then some .off else if b = 0x01#8 then some .writes else if b = 0x02#8 then some .all else none

/-- 00h ABORT, 01h FALLBACK. -/
def readMissPolicy (b : Byte) : Option MissPolicy :=
  if b = 0x00#8 then some .abort else if b = 0x01#8 then some .fallback else none

/-- The window options byte: bits 1..0 watch, bit 2 staged, bits 7..3 clear. -/
def readWindowOptions (b : Byte) : Option (Watch × Bool) :=
  if b.toNat < 8 then
    match readWatch (b &&& 0x03#8) with
    | some w => some (w, b.getLsbD 2)
    | none => none
  else none

/-- The device options byte: bit 0 auto-wake, bits 2..1 sense, bits 7..3 clear. -/
def readDeviceOptions (b : Byte) : Option (Bool × Sense) :=
  if b.toNat < 8 then
    match b.getLsbD 2, b.getLsbD 1 with
    | false, false => some (b.getLsbD 0, .ignore)
    | false, true => some (b.getLsbD 0, .high)
    | true, false => some (b.getLsbD 0, .low)
    | true, true => none
  else none

/-- The verdicts of R101. -/
inductive Verdict where
  | pass | refuse | supply
deriving DecidableEq, Repr

/-- 00h PASS, 01h REFUSE, 02h SUPPLY. -/
def readVerdict (b : Byte) : Option Verdict :=
  if b = 0x00#8 then some .pass else if b = 0x01#8 then some .refuse else if b = 0x02#8 then some .supply
  else none

/-! ## Writing replies -/

/-- The result codes of R160. -/
inductive ResultCode where
  | ok | unknownCommand | badValue | slotInUse | slotFree | noDevice | inUse | overlap | conflict
  | wrongState | stale | nothingPending | late
deriving DecidableEq, Repr

/-- The value of a result code (R160). -/
def ResultCode.toByte : ResultCode → Byte
  | .ok => 0x00#8
  | .unknownCommand => 0x01#8
  | .badValue => 0x02#8
  | .slotInUse => 0x03#8
  | .slotFree => 0x04#8
  | .noDevice => 0x05#8
  | .inUse => 0x06#8
  | .overlap => 0x07#8
  | .conflict => 0x08#8
  | .wrongState => 0x09#8
  | .stale => 0x0A#8
  | .nothingPending => 0x0B#8
  | .late => 0x0C#8

/-- The reason code on CRSN (Table 2-5). -/
def Reason.code : Reason → BitVec 4
  | .done => 0#4
  | .supplied => 1#4
  | .miss => 2#4
  | .straddle => 3#4
  | .denied => 4#4
  | .asleep => 5#4
  | .deviceFault => 6#4
  | .holdTimeout => 7#4
  | .refused => 8#4
  | .interceptTimeout => 9#4
  | .reset => 10#4

/-- A count of at most 255 as one byte. -/
def countByte (n : Nat) : Byte := BitVec.ofNat 8 n

/-- Yes 01h, no 00h. -/
def yesNoByte (b : Bool) : Byte := if b then 0x01#8 else 0x00#8

/-- A 16-bit count as two bytes, low then high (R160). -/
def countBytes (n : Nat) : List Byte := [BitVec.ofNat 8 n, BitVec.ofNat 8 (n / 256)]

/-- A 24-bit address as three bytes, low-order byte first (R160). -/
def addressBytes (a : Address) : List Byte :=
  [a.extractLsb' 0 8, a.extractLsb' 8 8, a.extractLsb' 16 8]

/-- The 24-bit address that three bytes give, low-order byte first (R160). -/
def addressOf (b0 b1 b2 : Byte) : Address := b2 ++ b1 ++ b0

/-- The four data bytes, lowest-order lane first (R160). -/
def dataOf (b0 b1 b2 b3 : Byte) : DataWord := b3 ++ b2 ++ b1 ++ b0

/-- Table 10-2, direction. -/
def directionByte : Direction → Byte
  | .read => 0x00#8
  | .write => 0x01#8

/-- Table 10-2, slot state. -/
def slotStateByte : SlotState → Byte
  | .free => 0x00#8
  | .staged => 0x01#8
  | .live => 0x02#8
  | .marked => 0x03#8
  | .draining => 0x04#8

/-- Table 10-2, origin. -/
def originByte : Origin → Byte
  | .strap => 0x00#8
  | .command => 0x01#8

/-- Table 10-2, watch. -/
def watchByte : Watch → Byte
  | .off => 0x00#8
  | .writes => 0x01#8
  | .all => 0x02#8

/-- Table 10-2, residency. -/
def residencyByte : Residency → Byte
  | .absent => 0x00#8
  | .off => 0x01#8
  | .waking => 0x02#8
  | .on => 0x03#8
  | .parking => 0x04#8
  | .fault => 0x05#8

/-- Table 10-2, fault cause. -/
def faultCauseByte : FaultCause → Byte
  | .none => 0x00#8
  | .noPowerGood => 0x01#8
  | .powerLost => 0x02#8

/-- The two sense bits of the device options byte, in their place. -/
def senseBits : Sense → Byte
  | .ignore => 0x00#8
  | .high => 0x02#8
  | .low => 0x04#8

/-- The device options byte as DEFINE DEVICE writes it (R164). -/
def deviceOptionsByte (autoWake : Bool) (sense : Sense) : Byte := senseBits sense ||| yesNoByte autoWake

/-- The straps byte: bits 1..0 BSZ, 3..2 BWT, 5..4 BPG (Table 10-2). -/
def strapsByte (x : Straps) : Byte := 0#2 ++ x.bpg ++ x.bwt ++ x.bsz

/-! ## Widths and lanes -/

/-- CWID: 00 names width 1, 01 width 2, 10 width 4, and 11 is taken as width 4 (R27). -/
def widthOfCwid (w : BitVec 2) : Width :=
  if w = 0#2 then .one else if w = 1#2 then .two else .four

/-- The number of bytes of a width. -/
def Width.bytes : Width → Nat
  | .one => 1
  | .two => 2
  | .four => 4

/-- The bytes in the low-order lanes that a width names, lowest first (R42). -/
def laneBytes (w : Width) (x : DataWord) : List Byte :=
  match w with
  | .one => [x.extractLsb' 0 8]
  | .two => [x.extractLsb' 0 8, x.extractLsb' 8 8]
  | .four => [x.extractLsb' 0 8, x.extractLsb' 8 8, x.extractLsb' 16 8, x.extractLsb' 24 8]

/-- The lanes that a width names, with 00h in every lane above (R42). -/
def lowLanes (w : Width) (x : DataWord) : DataWord :=
  match w with
  | .one => x &&& 0x000000FF#32
  | .two => x &&& 0x0000FFFF#32
  | .four => x

/-- What CRD carries for an access that took `x` as its data: the bytes of a READ, 00h everywhere for a
WRITE (R43, R104). -/
def answerData (dir : Direction) (w : Width) (x : DataWord) : DataWord :=
  match dir with
  | .read => lowLanes w x
  | .write => 0#32

/-- The write data an arriving claim keeps (R27). -/
def writeDataOf (dir : Direction) (w : Width) (x : DataWord) : Option (List Byte) :=
  match dir with
  | .read => none
  | .write => some (laneBytes w x)

/-- Four bytes for INTERCEPT INFO: the write data, then 00h above the width; four 00h for a READ (R100). -/
def writeDataReply (d : Option (List Byte)) : List Byte :=
  let bytes := d.getD []
  bytes ++ List.replicate (4 - bytes.length) 0x00#8

end Sys2Proof.Machine
end

