-- ==== Sys2Proof/Machine/Ops.lean ====
section
/-! DEFINITION. The operations that the events and commands share: one event, timers, the directory's lookup
and overlap test, device references, wakes, holds and releases, faults, the one answer of a claim, and the
steps of the management port. -/

namespace Sys2Proof.Machine

/-! ## One event -/

/-- No output of an earlier event is driven any more (assumption 7). -/
def State.quiet (s : State) : State := { s with answers := [], md := none, penPulses := [] }

/-- One event: while PORN is low the controller takes nothing (R129); otherwise the event has its effect. -/
def event (s : State) (effect : State → State) : Result :=
  .next (if s.inReset then s.quiet else effect s.quiet)

/-! ## Tables -/

/-- A table with every entry rewritten in one event. -/
def mapTable {α β : Type} {n : Nat} (f : Fin n → α → β) (v : Vector α n) : Vector β n :=
  Vector.ofFn fun i => f i v[i]

/-- The slot numbers in increasing order. -/
def allSlots : List SlotId := List.finRange 64

/-- The masters in increasing order. -/
def allMasters : List Master := List.finRange 4

/-- Write one slot. -/
def State.setSlot (n : SlotId) (w : Slot) (s : State) : State := { s with slots := s.slots.set n w }

/-- Write one device record. -/
def State.setDevice (d : Device) (r : DeviceRecord) (s : State) : State :=
  { s with devices := s.devices.set d r }

/-- Write one claim record. -/
def State.setClaim (m : Master) (c : Option Claim) (s : State) : State :=
  { s with claims := s.claims.set m c }

/-- Write one marker. -/
def State.setMarker (m : Master) (b : Bool) (s : State) : State :=
  { s with markers := s.markers.set m b }

/-- The number of slots that meet a test. -/
def countSlots (p : Slot → Bool) (v : Vector Slot 64) : Nat := v.toList.countP p

/-! ## Timers (R58) -/

/-- Load a timer with a number of ticks; loading 0 leaves it stopped (R63). -/
def Timer.load (n : Nat) : Option Timer := if n = 0 then none else some { left := n, due := false }

/-- One tick: the count falls by one, except that the tick which lowers it to 0 makes the expiry due and the
count falls in the expiry event itself (R58). -/
def Timer.tick (t : Timer) : Timer :=
  if t.left ≤ 1 then { t with due := true } else { t with left := t.left - 1 }

/-- The expiry of a timer is to be taken. -/
def timerDue : Option Timer → Bool
  | some t => t.due
  | none => false

/-- The remaining count as the management processor reads it: 0 while the timer is stopped (R164). -/
def timerLeft : Option Timer → Nat
  | some t => t.left
  | none => 0

/-! ## The directory (chapter 1) -/

/-- The window takes part in lookups: the matching view is the LIVE and MARKED slots (R19). -/
def Slot.inView (w : Slot) : Bool := w.state == .live || w.state == .marked

/-- An address lies in the window's range: b ≤ A ≤ b + 2^k - 1 (R2). -/
def Slot.contains (w : Slot) (a : Address) : Bool :=
  decide (w.base.toNat ≤ a.toNat) && decide (a.toNat ≤ w.base.toNat + 2 ^ w.size - 1)

/-- Two ranges share at least one address (R21). -/
def Slot.shares (v w : Slot) : Bool :=
  decide (v.base.toNat ≤ w.base.toNat + 2 ^ w.size - 1) && decide (w.base.toNat ≤ v.base.toNat + 2 ^ v.size - 1)

/-- Two windows conflict: equal precedence and a shared address (R21). -/
def Slot.conflicts (v w : Slot) : Bool := decide (v.precedence = w.precedence) && v.shares w

/-- The candidates for an address, in slot order (R20). -/
def candidates (s : State) (a : Address) : List SlotId :=
  allSlots.filter fun n => (s.slot n).inView && (s.slot n).contains a

/-- Keep the slot of higher precedence. Equal precedence cannot occur (R22); the model then keeps the first
(assumption 10). -/
def higher (s : State) (best : Option SlotId) (n : SlotId) : Option SlotId :=
  match best with
  | none => some n
  | some b => if (s.slot b).precedence < (s.slot n).precedence then some n else some b

/-- The lookup: the candidate of highest precedence, or `none` for a miss (R20). -/
def lookup (s : State) (a : Address) : Option SlotId := (candidates s a).foldl (higher s) none

/-- What the two ends of an access decide (R31). -/
inductive Ends where
  | straddle | miss | fallback
  | window (n : SlotId)
deriving DecidableEq, Repr

/-- The overflow test and the two-ended lookup (R31, R23). -/
def decideEnds (s : State) (a : Address) (w : Width) : Ends :=
  if 0xFFFFFF < a.toNat + w.bytes - 1 then .straddle
  else
    match lookup s a, lookup s (a + BitVec.ofNat 24 (w.bytes - 1)) with
    | some n, some m => if n = m then .window n else .straddle
    | some _, none => .straddle
    | none, some _ => .straddle
    | none, none =>
      match s.missPolicy with
      | .abort => .miss
      | .fallback => .fallback

/-- The bit of the permissions byte for a master and a direction (Table 10-2). -/
def grantBit (m : Master) : Direction → Nat
  | .read => 2 * m.val
  | .write => 2 * m.val + 1

/-- The window grants a master a direction (R7, R35). -/
def Slot.grants (w : Slot) (m : Master) (dir : Direction) : Bool := w.permissions.getLsbD (grantBit m dir)

/-- The watch setting catches a direction (R8, Table 1-2). -/
def Watch.catches : Watch → Direction → Bool
  | .off, _ => false
  | .writes, .read => false
  | .writes, .write => true
  | .all, _ => true

/-- The forwarded address of a claim address (R3). -/
def Slot.forward (w : Slot) (a : Address) : Address :=
  match w.relocation with
  | none => a
  | some r => r + (a - w.base)

/-- Some window of the view, other than a given slot, conflicts with a window (R21). -/
def conflictsWithView (s : State) (except_ : Option SlotId) (w : Slot) : Bool :=
  allSlots.any fun m => decide (except_ ≠ some m) && (s.slot m).inView && w.conflicts (s.slot m)

/-- The first conflicting pair of the view a publish would create: the STAGED slots in increasing number,
and for each the other slots of the new view in increasing number (R122, R123). -/
def firstConflict (s : State) : Option (SlotId × SlotId) :=
  allSlots.findSome? fun n =>
    if (s.slot n).state = .staged then
      (allSlots.find? fun m => decide (m ≠ n) && ((s.slot m).state == .live || (s.slot m).state == .staged)
        && (s.slot n).conflicts (s.slot m)).map fun m => (n, m)
    else none

/-! ## Device references (R55) -/

/-- A slot or the fallback begins to name a device. -/
def addReference (d : Device) (s : State) : State :=
  s.setDevice d { s.device d with refCount := (s.device d).refCount + 1 }

/-- A slot or the fallback stops naming a device. -/
def dropReference (d : Device) (s : State) : State :=
  s.setDevice d { s.device d with refCount := (s.device d).refCount - 1 }

/-- The device records after every slot that meets a test has become FREE in one event. -/
def dropReferences (p : Slot → Bool) (s : State) : Vector DeviceRecord 16 :=
  mapTable (fun d r => { r with refCount := r.refCount - countSlots (fun w => p w && decide (w.device = d)) s.slots })
    s.devices

/-- A slot that names its device becomes FREE, keeping the fields of its window (R14, R55). -/
def freeSlot (n : SlotId) (s : State) : State :=
  dropReference (s.slot n).device (s.setSlot n { s.slot n with state := .free })

/-! ## Binding (R12, R13) -/

/-- A claim binds to a slot: the bound count rises (R12). -/
def raiseBound (n : SlotId) (s : State) : State :=
  s.setSlot n { s.slot n with bound := (s.slot n).bound + 1 }

/-- A claim bound to a slot is answered: the touched flag may be set (R11), the bound count falls (R12), and a
DRAINING slot whose count reaches 0 becomes FREE (R13). -/
def unbind (b : Binding) (touch : Bool) (s : State) : State :=
  match b with
  | .fallback => s
  | .slot n _ =>
    let w := { s.slot n with touched := (s.slot n).touched || touch, bound := (s.slot n).bound - 1 }
    let t := s.setSlot n w
    if w.state = .draining ∧ w.bound = 0 then freeSlot n t else t

/-! ## Answers (R44) -/

/-- Put an answer on a master's channel and empty its claim record (R44). -/
def giveAnswer (m : Master) (r : Reason) (data : DataWord) (s : State) : State :=
  { s with answers := s.answers ++ [{ master := m, reason := r, data := data }],
           claims := s.claims.set m none }

/-- The held count of a device rises: a claim bound to it enters the hold list (R56). -/
def raiseHeld (d : Device) (s : State) : State :=
  s.setDevice d { s.device d with heldCount := (s.device d).heldCount + 1 }

/-- The held count of a device falls: a claim bound to it leaves the hold list (R56). -/
def lowerHeld (d : Device) (s : State) : State :=
  s.setDevice d { s.device d with heldCount := (s.device d).heldCount - 1 }

/-- A master stands in no list and does not hold the bus; the claims behind it close up (R39, R44, R79, R95). -/
def leaveLists (m : Master) (s : State) : State :=
  { s with
    interceptList := s.interceptList.filter fun x => decide (x ≠ m)
    holdList := s.holdList.filter fun x => decide (x ≠ m)
    readyList := s.readyList.filter fun x => decide (x ≠ m)
    cycle := s.cycle.filter fun c => decide (c.master ≠ m) }

/-- A master's claim leaves whatever list it is in, or the bus (R44); leaving the hold list lowers the held
count of its device (R56). -/
def leavePlace (m : Master) (d : Device) (s : State) : State :=
  leaveLists m (if m ∈ s.holdList then lowerHeld d s else s)

/-- The reason codes that set the touched flag (R11). -/
def Reason.touches : Reason → Bool
  | .done | .supplied => true
  | .miss | .straddle | .denied | .asleep | .deviceFault | .holdTimeout | .refused | .interceptTimeout
  | .reset => false

/-- Answer a claim, with all the effects of R44. -/
def answerClaim (m : Master) (a : Access) (r : Reason) (data : DataWord) (s : State) : State :=
  unbind a.binding r.touches (giveAnswer m r data (leavePlace m a.device s))

/-- Answer the claim of a master, if it has one in flight, with 00h on CRD. -/
def answerMaster (r : Reason) (s : State) (m : Master) : State :=
  match s.claim m with
  | some c => answerClaim m c.access r 0#32 s
  | none => s

/-- Answer the claims of several masters, in order, with 00h on CRD. -/
def answerAll (ms : List Master) (r : Reason) (s : State) : State := ms.foldl (answerMaster r) s

/-! ## Devices (chapter 3) -/

/-- The level of PGD agrees with the sense (R54). -/
def Sense.conforms : Sense → Bool → Bool
  | .ignore, _ => true
  | .high, level => level
  | .low, level => !level

/-- The claim of a master is bound to a device. -/
def boundTo (s : State) (d : Device) (m : Master) : Bool :=
  match s.claim m with
  | some c => decide (c.access.device = d)
  | none => false

/-- The master of the ACTIVE claim, if any. -/
def activeMaster (s : State) : List Master :=
  match s.cycle with
  | some c => [c.master]
  | none => []

/-- The device has ready or active claims (R67 to R69). -/
def hasWork (s : State) (d : Device) : Bool := (activeMaster s ++ s.readyList).any (boundTo s d)

/-- A wake starts (R62). -/
def startWake (d : Device) (s : State) : State :=
  s.setDevice d { s.device d with
    residency := .waking, pen := true, wakeTimer := Timer.load (s.device d).wakeTime, idleTimer := none,
    faultCause := .none }

/-- The device's power is removed and it is OFF (R67 to R69). -/
def powerOff (d : Device) (s : State) : State :=
  s.setDevice d { s.device d with residency := .off, pen := false, wakeTimer := none, idleTimer := none }

/-- A held claim released: READY, its hold timer stopped (R84). -/
def Claim.released (c : Claim) : Claim := { c with phase := .ready, timer := none }

/-- The held count of a device becomes 0 (R84, R85). -/
def clearHeld (d : Device) (s : State) : State := s.setDevice d { s.device d with heldCount := 0 }

/-- The claims held for a device move to the tail of the ready list in hold-list order (R84, R85). -/
def releaseHeld (d : Device) (s : State) : State :=
  let released := s.holdList.filter (boundTo s d)
  { clearHeld d s with
    claims := mapTable (fun m c => if m ∈ released then Option.map Claim.released c else c) s.claims
    holdList := s.holdList.filter fun m => !boundTo s d m
    readyList := s.readyList ++ released }

/-- The device becomes ON: the idle timer is loaded and the held claims are released (R63, R65). -/
def enterOn (d : Device) (s : State) : State :=
  releaseHeld d (s.setDevice d { s.device d with
    residency := .on, wakeTimer := none, idleTimer := Timer.load (s.device d).idleLimit })

/-- The device goes to FAULT: the given claims are answered DEVICE_FAULT in order, its power is removed, and
the FAULT cause is raised once (R64, R71, R86). -/
def enterFault (d : Device) (cause : FaultCause) (ms : List Master) (s : State) : State :=
  let t := answerAll ms .deviceFault s
  raise .fault (t.setDevice d { t.device d with
    residency := .fault, faultCause := cause, pen := false, wakeTimer := none, idleTimer := none, heldCount := 0 })

/-- The end of a park, once a PARKING device has no ready or active claim left (R69). A device with held
claims passes through OFF into a new wake, and its PEN is pulsed (R53). -/
def endPark (d : Device) (s : State) : State :=
  if (s.device d).residency = .parking ∧ hasWork s d = false then
    if (s.device d).heldCount = 0 then powerOff d s
    else startWake d { powerOff d s with penPulses := s.penPulses ++ [d] }
  else s

/-! ## Placing a claim (R36, R37) -/

/-- The claim enters the intercept list (R96). -/
def enterIntercept (m : Master) (a : Access) (s : State) : State :=
  raise .intercept { s with
    claims := s.claims.set m (some { access := a, phase := .intercept, timer := Timer.load s.interceptLimit,
                                     verdictData := none })
    interceptList := s.interceptList ++ [m] }

/-- The claim enters the ready list (R39). -/
def enterReady (m : Master) (a : Access) (s : State) : State :=
  { s with
    claims := s.claims.set m (some { access := a, phase := .ready, timer := none, verdictData := none })
    readyList := s.readyList ++ [m] }

/-- The claim enters the hold list (R81). -/
def enterHold (m : Master) (a : Access) (s : State) : State :=
  { raiseHeld a.device s with
    claims := s.claims.set m (some { access := a, phase := .held, timer := Timer.load s.holdLimit,
                                     verdictData := none })
    holdList := s.holdList ++ [m] }

/-- The residency step (R37, Table 2-4). It does not occur at an ABSENT device (Table 3-2); the model answers
such a claim as at an OFF device that no claim may wake (assumption 10). -/
def residencyStep (m : Master) (a : Access) (s : State) : State :=
  match (s.device a.device).residency with
  | .on => enterReady m a s
  | .waking => enterHold m a s
  | .parking => enterHold m a s
  | .off =>
    if (s.device a.device).autoWake then enterHold m a (startWake a.device s)
    else answerClaim m a .asleep 0#32 s
  | .fault => answerClaim m a .deviceFault 0#32 s
  | .absent => answerClaim m a .asleep 0#32 s

/-! ## The management port (chapter 9) -/

/-- The port's part of a command byte that is taken: the error fields are cleared, an unread reply is
discarded, and a command being collected is abandoned (R150, steps 1 to 3). -/
def takeCommandByte (s : State) : State :=
  match s.port.condition with
  | .collecting _ _ =>
    raise .port { s with port := { condition := .idle, orphan := false, collision := false, abandoned := true } }
  | .idle | .executing _ _ | .replying _ =>
    { s with port := { condition := .idle, orphan := false, collision := false, abandoned := false } }

/-- A misuse of the data location: ORPHAN and the PORT cause (R155). -/
def orphan (s : State) : State := raise .port { s with port := { s.port with orphan := true } }

/-- A command byte written while EXECUTING: COLLISION and the PORT cause (R156). -/
def collide (s : State) : State := raise .port { s with port := { s.port with collision := true } }

/-- Place a reply: the port is REPLYING (R152). -/
def reply (bytes : List Byte) (s : State) : State :=
  { s with port := { s.port with condition := .replying bytes } }

/-- Place a reply of the result code alone. -/
def replyResult (r : ResultCode) (s : State) : State := reply [r.toByte] s

/-- A management command sent whole: its command byte and then its parameter bytes, with no other event
between them (assumption 5). While the port is EXECUTING the command byte sets COLLISION and each parameter
byte sets ORPHAN (R155, R156). -/
def sendWhole (code : CommandCode) (run : State → State) (s : State) : State :=
  match s.port.condition with
  | .executing _ _ => if code.paramCount = 0 then collide s else orphan (collide s)
  | .idle | .collecting _ _ | .replying _ => run (takeCommandByte s)

/-! ## The start-up objects (chapter 7) -/

/-- BSZ selects the boot window's size (Table 7-1). -/
def bootSize (x : Straps) : Nat := 16 + x.bsz.toNat

/-- BWT selects the boot window's waits (Table 7-1). -/
def bootWaits (x : Straps) : Fin 16 :=
  if x.bwt = 0#2 then 0 else if x.bwt = 1#2 then 4 else if x.bwt = 2#2 then 8 else 15

/-- BPG selects D0's power-good sense (Table 7-1). -/
def bootSense (x : Straps) : Sense :=
  if x.bpg = 0#2 then .ignore else if x.bpg = 2#2 then .low else .high

/-- The boot window of slot 0 with a generation (Table 1-7). -/
def bootSlot (x : Straps) (g : Generation) : Slot :=
  { state := .live, origin := .strap, base := BitVec.ofNat 24 (0x1000000 - 2 ^ bootSize x), size := bootSize x,
    precedence := 0, device := 0, waits := bootWaits x, permissions := 0x55#8, watch := .off,
    relocation := none, generation := g, touched := false, bound := 0 }

/-- D0 defined from the straps with its wake started (Table 3-5, R77). -/
def bootDevice (x : Straps) : DeviceRecord :=
  { residency := .waking, wakeTime := 16, idleLimit := 0, idleTimer := none,
    wakeTimer := some { left := 16, due := false }, autoWake := true, sense := bootSense x, refCount := 1,
    heldCount := 0, faultCause := .none, pen := true }

/-- Every record at its initial value, with the latched straps (R131). The queue, the last sampled PGD
levels and the two counts of the model are not records of the controller and are kept. -/
def powerOnState (x : Straps) (s : State) : State :=
  { slots := (Vector.replicate 64 Slot.blank).set 0 (bootSlot x 0),
    missPolicy := .abort, fallbackDevice := 0, fallbackWaits := 0,
    claims := Vector.replicate 4 none,
    interceptList := [], holdList := [], readyList := [], cycle := none, cyclesBegun := s.cyclesBegun,
    devices := (Vector.replicate 16 DeviceRecord.blank).set 0 (bootDevice x),
    pgd := s.pgd,
    holdLimit := 50, interceptLimit := 20, markers := Vector.replicate 4 false, divider := 0,
    flags := .clear, mask := .clear, gate := false, port := .idle,
    straps := x, inReset := false,
    answers := [], md := none, penPulses := [], freeCount := s.freeCount, pending := s.pending }

end Sys2Proof.Machine
end

