-- ==== Sys2Proof/Machine/ClaimEvents.lean ====
section
/-! DEFINITION. The claim path: CLAIM_ARRIVAL, GRANT and COMPLETION (chapter 2). -/

namespace Sys2Proof.Machine

/-- The record part of a claim bound to FALLBACK (R33). -/
def fallbackAccess (s : State) (a : Address) (dir : Direction) (w : Width) (data : DataWord) : Access :=
  { address := a, direction := dir, width := w, writeData := writeDataOf dir w data, binding := .fallback,
    device := s.fallbackDevice, waits := s.fallbackWaits, forwarded := a }

/-- The record part of a claim bound to a slot (R32). -/
def windowAccess (s : State) (n : SlotId) (a : Address) (dir : Direction) (w : Width) (data : DataWord) : Access :=
  { address := a, direction := dir, width := w, writeData := writeDataOf dir w data,
    binding := .slot n (s.slot n).generation, device := (s.slot n).device, waits := (s.slot n).waits,
    forwarded := (s.slot n).forward a }

/-- The decision sequence of an arriving claim: lookup, permission, watch, residency (R30, Table 2-3). -/
def decideClaim (m : Master) (a : Address) (dir : Direction) (w : Width) (data : DataWord) (s : State) : State :=
  match decideEnds s a w with
  | .straddle => giveAnswer m .straddle 0#32 s
  | .miss => giveAnswer m .miss 0#32 s
  | .fallback => residencyStep m (fallbackAccess s a dir w data) s
  | .window n =>
    let access := windowAccess s n a dir w data
    let t := raiseBound n s
    if (s.slot n).grants m dir = false then answerClaim m access .denied 0#32 t
    else if (s.slot n).watch.catches dir then enterIntercept m access t
    else residencyStep m access t

/-- A soft reset has started and has not completed (R49). -/
def softResetting (s : State) : Bool :=
  match s.port.condition with
  | .executing .softReset _ => true
  | .executing .publish _ | .idle | .collecting _ _ | .replying _ => false

/-- A claim taken from a channel: the master's marker is cleared (R27, R106), and the claim is answered RESET
during a soft reset (R49) or decided (R30). -/
def takeClaim (m : Master) (a : Address) (dir : Direction) (w : Width) (data : DataWord) (s : State) : State :=
  let t := s.setMarker m false
  if softResetting s then giveAnswer m .reset 0#32 t else decideClaim m a dir w data t

/-- CLAIM_ARRIVAL (R27, R30). CREQ is not looked at while the master has a claim in flight. -/
def execClaimArrival (m : Master) (a : Address) (dir : Direction) (cwid : BitVec 2) (data : DataWord) (s : State) :
    Result :=
  event s fun s =>
    match s.claim m with
    | some _ => s
    | none => takeClaim m a dir (widthOfCwid cwid) data s

/-- The device cycle of a claim: its number, its master and the pins it drives (R41, R42). -/
def cycleOf (number : Nat) (m : Master) (a : Access) : DeviceCycle :=
  { number := number, master := m, sel := a.device, da := a.forwarded, drw := a.direction, dd := a.writeData,
    waits := a.waits }

/-- The head of the ready list becomes ACTIVE and its device cycle begins (R40, R41). -/
def grantHead (m : Master) (rest : List Master) (c : Claim) (s : State) : State :=
  { s with
    readyList := rest
    cycle := some (cycleOf s.cyclesBegun m c.access)
    cyclesBegun := s.cyclesBegun + 1
    claims := s.claims.set m (some { c with phase := .active, timer := none }) }

/-- GRANT (R40). The arbiter grants only a free bus, and only when the ready list is not empty. -/
def execGrant (s : State) : Result :=
  event s fun s =>
    match s.cycle, s.readyList with
    | none, m :: rest =>
      match s.claim m with
      | some c => grantHead m rest c s
      | none => s
    | none, [] => s
    | some _, _ => s

/-- The idle timer of an ON device is loaded again with its idle limit (R66). -/
def reloadIdle (d : Device) (s : State) : State :=
  match (s.device d).residency with
  | .on => s.setDevice d { s.device d with idleTimer := Timer.load (s.device d).idleLimit }
  | .absent | .off | .waking | .parking | .fault => s

/-- The completion of the ACTIVE claim's cycle: the answer, the freed bus, the idle timer, the binding, and the
end of a park (R43). -/
def complete (m : Master) (a : Access) (dd : DataWord) (s : State) : State :=
  endPark a.device (reloadIdle a.device (answerClaim m a .done (answerData a.direction a.width dd) s))

/-- The cycle in progress that a response answers: the one of its number. A response to a cycle that has been cut
finds the bus free or granted to another cycle, and is not taken as belonging to it (R43). -/
def answeredCycle (s : State) (number : Nat) : Option DeviceCycle := s.cycle.filter fun c => decide (c.number = number)

/-- COMPLETION (R43). A response that answers no cycle in progress ends none. -/
def execCompletion (r : Response) (s : State) : Result :=
  event s fun s =>
    match answeredCycle s r.cycle with
    | some cycle =>
      match s.claim cycle.master with
      | some c => complete cycle.master c.access r.dd s
      | none => s
    | none => s

end Sys2Proof.Machine
end

