-- ==== Sys2Proof/Machine/DeviceCommands.lean ====
section
/-! DEFINITION. IDENTIFY and the device commands: DEFINE_DEVICE, FORGET_DEVICE, WAKE_DEVICE, PARK_DEVICE,
CLEAR_FAULT and READ_DEVICE (chapters 3 and 10). Each command function is the decoder's work on a complete
record; it places the reply (R159). -/

namespace Sys2Proof.Machine

/-- IDENTIFY: OK, family 6Ah, revision 01h, 64 slots, 16 devices, the latched straps (R161). -/
def cmdIdentify (s : State) : State :=
  reply [ResultCode.ok.toByte, 0x6A#8, 0x01#8, 0x40#8, 0x10#8, strapsByte s.straps] s

/-- IDENTIFY sent whole (R161). -/
def execIdentify (s : State) : Result := event s (sendWhole .identify cmdIdentify)

/-- The parameters of DEFINE DEVICE written into a record; an ABSENT device becomes OFF (R60). -/
def DeviceRecord.define (r : DeviceRecord) (wakeTime idleLimit : Nat) (autoWake : Bool) (sense : Sense) :
    DeviceRecord :=
  { r with wakeTime := wakeTime, idleLimit := idleLimit, autoWake := autoWake, sense := sense, residency := .off,
           faultCause := .none }

/-- DEFINE DEVICE (R60, R162). -/
def cmdDefineDevice (device wakeTime : Byte) (idleLimit : BitVec 16) (options : Byte) (s : State) : State :=
  match readFin 16 device, readTicks wakeTime, readIdleLimit idleLimit, readDeviceOptions options with
  | some d, some w, some l, some (autoWake, sense) =>
    match (s.device d).residency with
    | .absent | .off => replyResult .ok (s.setDevice d ((s.device d).define w l autoWake sense))
    | .waking | .on | .parking | .fault => replyResult .wrongState s
  | _, _, _, _ => replyResult .badValue s

/-- DEFINE_DEVICE sent whole (R162). -/
def execDefineDevice (device wakeTime : Byte) (idleLimit : BitVec 16) (options : Byte) (s : State) : Result :=
  event s (sendWhole .defineDevice (cmdDefineDevice device wakeTime idleLimit options))

/-- A command with the one parameter `device`: a number above 0Fh gives BAD_VALUE (R163, R164). -/
def withDevice (device : Byte) (run : Device → State → State) (s : State) : State :=
  match readFin 16 device with
  | some d => run d s
  | none => replyResult .badValue s

/-- FORGET DEVICE for a device in range: residency first, then the reference count (R61, R163). -/
def forgetDevice (d : Device) (s : State) : State :=
  match (s.device d).residency with
  | .off | .fault =>
    if (s.device d).refCount = 0 then
      replyResult .ok (s.setDevice d { s.device d with residency := .absent, faultCause := .none })
    else replyResult .inUse s
  | .waking | .on | .parking | .absent => replyResult .wrongState s

/-- FORGET DEVICE (R163). -/
def cmdForgetDevice (device : Byte) (s : State) : State := withDevice device forgetDevice s

/-- FORGET_DEVICE sent whole (R61, R163). -/
def execForgetDevice (device : Byte) (s : State) : Result :=
  event s (sendWhole .forgetDevice (cmdForgetDevice device))

/-- WAKE DEVICE for a device in range (R65). -/
def wakeDevice (d : Device) (s : State) : State :=
  match (s.device d).residency with
  | .off => replyResult .ok (startWake d s)
  | .waking | .on => replyResult .ok s
  | .parking => replyResult .ok (enterOn d s)
  | .fault | .absent => replyResult .wrongState s

/-- WAKE DEVICE (R163). -/
def cmdWakeDevice (device : Byte) (s : State) : State := withDevice device wakeDevice s

/-- WAKE_DEVICE sent whole (R65, R163). -/
def execWakeDevice (device : Byte) (s : State) : Result := event s (sendWhole .wakeDevice (cmdWakeDevice device))

/-- PARK DEVICE for a device in range (R68). -/
def parkDevice (d : Device) (s : State) : State :=
  match (s.device d).residency with
  | .on =>
    if hasWork s d then
      replyResult .ok (s.setDevice d { s.device d with residency := .parking, idleTimer := none })
    else replyResult .ok (powerOff d s)
  | .waking => if (s.device d).heldCount = 0 then replyResult .ok (powerOff d s) else replyResult .wrongState s
  | .parking | .off => replyResult .ok s
  | .fault | .absent => replyResult .wrongState s

/-- PARK DEVICE (R163). -/
def cmdParkDevice (device : Byte) (s : State) : State := withDevice device parkDevice s

/-- PARK_DEVICE sent whole (R68, R163). -/
def execParkDevice (device : Byte) (s : State) : Result := event s (sendWhole .parkDevice (cmdParkDevice device))

/-- CLEAR FAULT for a device in range (R72). -/
def clearFault (d : Device) (s : State) : State :=
  match (s.device d).residency with
  | .fault => replyResult .ok (s.setDevice d { s.device d with residency := .off, faultCause := .none })
  | .absent | .off | .waking | .on | .parking => replyResult .wrongState s

/-- CLEAR FAULT (R163). -/
def cmdClearFault (device : Byte) (s : State) : State := withDevice device clearFault s

/-- CLEAR_FAULT sent whole (R72, R163). -/
def execClearFault (device : Byte) (s : State) : Result := event s (sendWhole .clearFault (cmdClearFault device))

/-- The eleven bytes of READ DEVICE (R164). -/
def deviceReply (r : DeviceRecord) : List Byte :=
  [ResultCode.ok.toByte, residencyByte r.residency, countByte r.wakeTime] ++ countBytes r.idleLimit ++
    countBytes (timerLeft r.idleTimer) ++
    [deviceOptionsByte r.autoWake r.sense, countByte r.refCount, countByte r.heldCount, faultCauseByte r.faultCause]

/-- READ DEVICE for a device in range, in every residency (R164). -/
def readDevice (d : Device) (s : State) : State := reply (deviceReply (s.device d)) s

/-- READ DEVICE (R164). -/
def cmdReadDevice (device : Byte) (s : State) : State := withDevice device readDevice s

/-- READ_DEVICE sent whole (R164). -/
def execReadDevice (device : Byte) (s : State) : Result := event s (sendWhole .readDevice (cmdReadDevice device))

end Sys2Proof.Machine
end

