-- ==== Sys2Proof/Machine/InterceptCommands.lean ====
section
/-! DEFINITION. INTERCEPT_INFO and the verdicts: VERDICT_PASS, VERDICT_REFUSE and VERDICT_SUPPLY
(chapters 5 and 10). -/

namespace Sys2Proof.Machine

/-- The slot and the generation bytes of a binding; FFh stands for the fallback (R100). -/
def bindingBytes : Binding → List Byte
  | .slot n g => [countByte n.val, countByte g.val]
  | .fallback => [0xFF#8, 0xFF#8]

/-- The fourteen bytes of INTERCEPT INFO (R100, R171). -/
def interceptReply (m : Master) (c : Claim) : List Byte :=
  [ResultCode.ok.toByte, countByte m.val, directionByte c.access.direction, countByte c.access.width.bytes] ++
    addressBytes c.access.address ++ writeDataReply c.access.writeData ++ bindingBytes c.access.binding ++
    [countByte (timerLeft c.timer)]

/-- INTERCEPT INFO reports the head of the intercept list, or NOTHING_PENDING (R100, R171). -/
def cmdInterceptInfo (s : State) : State :=
  match s.interceptList with
  | [] => replyResult .nothingPending s
  | m :: _ =>
    match s.claim m with
    | some c => reply (interceptReply m c) s
    | none => replyResult .nothingPending s

/-- INTERCEPT_INFO sent whole (R171). -/
def execInterceptInfo (s : State) : Result := event s (sendWhole .interceptInfo cmdInterceptInfo)

/-- The claim leaves the intercept list for its residency step (R102). -/
def applyPass (m : Master) (c : Claim) (s : State) : State :=
  residencyStep m c.access { s with interceptList := s.interceptList.filter fun x => decide (x ≠ m) }

/-- The claim is answered REFUSED (R103). -/
def applyRefuse (m : Master) (c : Claim) (s : State) : State := answerClaim m c.access .refused 0#32 s

/-- The verdict data are kept in the claim record for the answer, and the claim is answered SUPPLIED (R104). -/
def applySupply (m : Master) (c : Claim) (data : DataWord) (s : State) : State :=
  let kept : Claim := { c with verdictData := some data }
  answerClaim m kept.access .supplied (answerData kept.access.direction kept.access.width (kept.verdictData.getD 0#32))
    (s.setClaim m (some kept))

/-- A verdict applied to a caught claim (R102 to R104). -/
def applyVerdict (v : Verdict) (m : Master) (c : Claim) (data : DataWord) (s : State) : State :=
  match v with
  | .pass => applyPass m c s
  | .refuse => applyRefuse m c s
  | .supply => applySupply m c data s

/-- The master's claim, if it is in the intercept list (R101). -/
def caughtClaim (s : State) (m : Master) : Option Claim :=
  if m ∈ s.interceptList then s.claim m else none

/-- A verdict with its parameters in range: applied, LATE, or NOTHING_PENDING (R101). -/
def takeVerdict (v : Verdict) (m : Master) (data : DataWord) (s : State) : State :=
  match caughtClaim s m with
  | some c => replyResult .ok (applyVerdict v m c data s)
  | none => if s.marker m then replyResult .late s else replyResult .nothingPending s

/-- A verdict for a master given as a byte (R172). -/
def cmdVerdict (v : Verdict) (master : Byte) (data : DataWord) (s : State) : State :=
  match readFin 4 master with
  | some m => takeVerdict v m data s
  | none => replyResult .badValue s

/-- VERDICT as sent, with the verdict as a byte (R172). -/
def cmdVerdictByte (master verdict : Byte) (data : DataWord) (s : State) : State :=
  match readVerdict verdict with
  | some v => cmdVerdict v master data s
  | none => replyResult .badValue s

/-- VERDICT_PASS sent whole (R102, R172); the data bytes are ignored. -/
def execVerdictPass (master : Byte) (data : DataWord) (s : State) : Result :=
  event s (sendWhole .verdict (cmdVerdict .pass master data))

/-- VERDICT_REFUSE sent whole (R103, R172); the data bytes are ignored. -/
def execVerdictRefuse (master : Byte) (data : DataWord) (s : State) : Result :=
  event s (sendWhole .verdict (cmdVerdict .refuse master data))

/-- VERDICT_SUPPLY sent whole (R104, R172). -/
def execVerdictSupply (master : Byte) (data : DataWord) (s : State) : Result :=
  event s (sendWhole .verdict (cmdVerdict .supply master data))

end Sys2Proof.Machine
end

