-- ==== Sys2Proof/Machine/PublishCommands.lean ====
section
/-! DEFINITION. PUBLISH, PUBLISH_COMPLETION and DISCARD (chapter 6). -/

namespace Sys2Proof.Machine

/-- PUBLISH starts: the port is EXECUTING with a timer of 2 ticks, and its reply buffer is empty
(R122, R153). -/
def cmdPublish (s : State) : State :=
  { s with port := { s.port with condition := .executing .publish { left := 2, due := false } } }

/-- PUBLISH (R122, R169). -/
def execPublish (s : State) : Result := event s (sendWhole .publish cmdPublish)

/-- A MARKED slot with no claim bound, which a publish or nothing else frees (R124). -/
def Slot.freedByPublish (w : Slot) : Bool := w.state == .marked && w.bound == 0

/-- A slot at the switch of a publish (R124). -/
def Slot.publish (w : Slot) : Slot :=
  match w.state with
  | .staged => { w with state := .live }
  | .marked => { w with state := if w.bound = 0 then .free else .draining }
  | .free | .live | .draining => w

/-- Every pending change made in one event (R124). -/
def applyPublish (s : State) : State :=
  { s with slots := mapTable (fun _ w => w.publish) s.slots, devices := dropReferences Slot.freedByPublish s }

/-- The completion of a publish: nothing changes on CONFLICT; otherwise the switch is made. The reply is
placed and DONE is raised (R122 to R124, R169). -/
def completePublish (s : State) : State :=
  match firstConflict s with
  | some (n, m) =>
    raise .done (reply [ResultCode.conflict.toByte, countByte n.val, countByte m.val] s)
  | none => raise .done (reply [ResultCode.ok.toByte, 0xFF#8, 0xFF#8] (applyPublish s))

/-- PUBLISH_COMPLETION (R122, R124): taken at the second tick after the start, when its timer is due. -/
def execPublishCompletion (s : State) : Result :=
  event s fun s =>
    match s.port.condition with
    | .executing .publish t => if t.due then completePublish s else s
    | .executing .softReset _ | .idle | .collecting _ _ | .replying _ => s

/-- A slot at a DISCARD (R126). -/
def Slot.discard (w : Slot) : Slot :=
  match w.state with
  | .staged => { w with state := .free }
  | .marked => { w with state := .live }
  | .free | .live | .draining => w

/-- The slot is a pending change (R112). -/
def Slot.pendingChange (w : Slot) : Bool := w.state == .staged || w.state == .marked

/-- DISCARD abandons every pending change and replies with the number of slots changed (R126, R169). -/
def cmdDiscard (s : State) : State :=
  reply [ResultCode.ok.toByte, countByte (countSlots Slot.pendingChange s.slots)]
    { s with slots := mapTable (fun _ w => w.discard) s.slots,
             devices := dropReferences (fun w => w.state == .staged) s }

/-- DISCARD sent whole (R126, R169). -/
def execDiscard (s : State) : Result := event s (sendWhole .discard cmdDiscard)

end Sys2Proof.Machine
end

