-- ==== Sys2Proof/Machine/Resets.lean ====
section
/-! DEFINITION. The resets: POWER_ON_RESET, END_OF_POWER_ON_RESET, BUS_RESET, SOFT_RESET and
SOFT_RESET_COMPLETION (chapter 7, and the reset rules of chapters 1 to 5, 8 and 9). -/

namespace Sys2Proof.Machine

/-- The controller held in reset: no claim, no cycle, no command, every PEN deasserted, the gate closed. The
records are lost (R129); the model shows them blank (assumption 2) and keeps the straps latched before. -/
def heldInReset (s : State) : State :=
  { powerOnState s.straps s with
    slots := Vector.replicate 64 Slot.blank, devices := Vector.replicate 16 DeviceRecord.blank, inReset := true }

/-- POWER_ON_RESET: PORN goes low (R129). A PORN that is already low cannot go low (assumption 4). -/
def execPowerOnReset (s : State) : Result := event s heldInReset

/-- END_OF_POWER_ON_RESET: PORN goes high, the straps are latched and every record is built (R130, R131). A
PORN that is already high cannot go high (assumption 4). -/
def execEndOfPowerOnReset (bsz bwt bpg : BitVec 2) (s : State) : Result :=
  .next (if s.inReset then powerOnState { bsz := bsz, bwt := bwt, bpg := bpg } s.quiet else s.quiet)

/-- A slot at a bus reset: bound count 0, and a DRAINING slot becomes FREE (R26). -/
def Slot.busReset (w : Slot) : Slot :=
  { w with bound := 0, state := if w.state = .draining then .free else w.state }

/-- A PARKING device whose claims are gone goes to OFF without a new wake (R76, R78). -/
def DeviceRecord.endParkEmpty (r : DeviceRecord) : DeviceRecord :=
  if r.residency = .parking then { r with residency := .off, pen := false } else r

/-- A bus reset: every claim dropped without an answer, the lists emptied, the cycle cut, the markers cleared,
the bound counts 0, the DRAINING slots FREE, the held counts 0, the PARKING devices OFF
(R26, R50, R78, R94, R111). -/
def busReset (s : State) : State :=
  { s with
    claims := Vector.replicate 4 none
    interceptList := [], holdList := [], readyList := [], cycle := none
    markers := Vector.replicate 4 false
    slots := mapTable (fun _ w => w.busReset) s.slots
    devices := mapTable (fun _ r => ({ r with heldCount := 0 } : DeviceRecord).endParkEmpty)
      (dropReferences (fun w => w.state == .draining) s) }

/-- BUS_RESET: BRST goes from deasserted to asserted (R50). -/
def execBusReset (s : State) : Result := event s busReset

/-- The start of a soft reset at the controller's records: every claim in flight is answered RESET (R48), the
markers are cleared (R110), and PARKING devices go to OFF (R76). -/
def answerAllReset (s : State) : State :=
  let t := answerAll (s.interceptList ++ s.holdList ++ s.readyList ++ activeMaster s) .reset s
  { t with markers := Vector.replicate 4 false, devices := mapTable (fun _ r => r.endParkEmpty) t.devices }

/-- SOFT RESET starts and the port is EXECUTING with a timer of 2 ticks (R134, R153). -/
def cmdSoftReset (s : State) : State :=
  let t := answerAllReset s
  { t with port := { t.port with condition := .executing .softReset { left := 2, due := false } } }

/-- SOFT_RESET (R134, R176). -/
def execSoftReset (s : State) : Result := event s (sendWhole .softReset cmdSoftReset)

/-- A slot other than slot 0 at the completion of a soft reset (R25). -/
def Slot.softReset (w : Slot) : Slot := { w with state := .free, touched := false, bound := 0 }

/-- A device other than D0 at the completion of a soft reset: ABSENT, its parameters kept (R77). -/
def DeviceRecord.softReset (r : DeviceRecord) : DeviceRecord :=
  { r with residency := .absent, pen := false, wakeTimer := none, idleTimer := none, heldCount := 0, refCount := 0,
           faultCause := .none }

/-- D0 at the completion of a soft reset: kept when it is ON, otherwise defined afresh with its wake started;
its reference count is 1, for slot 0 (R77). -/
def DeviceRecord.softResetZero (x : Straps) (r : DeviceRecord) : DeviceRecord :=
  match r.residency with
  | .on => { r with refCount := 1 }
  | .absent | .off | .waking | .parking | .fault => bootDevice x

/-- The completion of a soft reset: the start-up objects are rebuilt from the latched straps, the limits and the
miss policy return to their power-on values, the flags are cleared and DONE is set, and the reply OK is placed
(R25, R77, R93, R110, R135, R146, R158). -/
def completeSoftReset (s : State) : State :=
  replyResult .ok { s with
    slots := (mapTable (fun _ w => w.softReset) s.slots).set 0 (bootSlot s.straps ((s.slot 0).generation + 1))
    missPolicy := .abort, fallbackDevice := 0, fallbackWaits := 0
    devices := (mapTable (fun _ r => r.softReset) s.devices).set 0 ((s.device 0).softResetZero s.straps)
    holdLimit := 50, interceptLimit := 20
    flags := CauseFlags.clear.raise .done }

/-- SOFT_RESET_COMPLETION (R135): taken at the second tick after the start, when its timer is due. -/
def execSoftResetCompletion (s : State) : Result :=
  event s fun s =>
    match s.port.condition with
    | .executing .softReset t => if t.due then completeSoftReset s else s
    | .executing .publish _ | .idle | .collecting _ _ | .replying _ => s

end Sys2Proof.Machine
end

