-- ==== Sys2Proof/Machine/SettingCommands.lean ====
section
/-! DEFINITION. The settings: SET_MISS_POLICY, SET_LIMITS, SET_NOTIFY_MASK, READ_NOTIFY and CLEAR_NOTIFY
(chapters 6, 8 and 10). -/

namespace Sys2Proof.Machine

/-- The fallback reference leaves the device that holds it (R127). -/
def dropFallback (s : State) : State :=
  match s.missPolicy with
  | .abort => s
  | .fallback => dropReference s.fallbackDevice s

/-- The fallback reference goes to the device that the policy given names (R127). -/
def takeFallback (p : MissPolicy) (d : Device) (s : State) : State :=
  match p with
  | .abort => s
  | .fallback => addReference d s

/-- The setting written and the fallback reference moved (R127). -/
def writeMissPolicy (p : MissPolicy) (d : Device) (w : Fin 16) (s : State) : State :=
  { takeFallback p d (dropFallback s) with missPolicy := p, fallbackDevice := d, fallbackWaits := w }

/-- SET MISS POLICY (R127, R173). -/
def cmdSetMissPolicy (policy device waits : Byte) (s : State) : State :=
  match readMissPolicy policy, readFin 16 device, readFin 16 waits with
  | some p, some d, some w =>
    if p = .fallback ∧ (s.device d).residency = .absent then replyResult .noDevice s
    else replyResult .ok (writeMissPolicy p d w s)
  | _, _, _ => replyResult .badValue s

/-- SET_MISS_POLICY sent whole (R173). -/
def execSetMissPolicy (policy device waits : Byte) (s : State) : Result :=
  event s (sendWhole .setMissPolicy (cmdSetMissPolicy policy device waits))

/-- SET LIMITS (R80, R97, R174). -/
def cmdSetLimits (hold intercept : Byte) (s : State) : State :=
  match readTicks hold, readTicks intercept with
  | some h, some i => replyResult .ok { s with holdLimit := h, interceptLimit := i }
  | _, _ => replyResult .badValue s

/-- SET_LIMITS sent whole (R174). -/
def execSetLimits (hold intercept : Byte) (s : State) : Result :=
  event s (sendWhole .setLimits (cmdSetLimits hold intercept))

/-- SET NOTIFY MASK: the mask is written and the gate opens (R141, R142). -/
def cmdSetNotifyMask (mask : Byte) (s : State) : State :=
  match CauseFlags.ofByte mask with
  | some f => replyResult .ok { s with mask := f, gate := true }
  | none => replyResult .badValue s

/-- SET_NOTIFY_MASK sent whole (R175). -/
def execSetNotifyMask (mask : Byte) (s : State) : Result :=
  event s (sendWhole .setNotifyMask (cmdSetNotifyMask mask))

/-- READ NOTIFY: OK, the flags, the mask, the gate (R144, R175). -/
def cmdReadNotify (s : State) : State :=
  reply [ResultCode.ok.toByte, s.flags.toByte, s.mask.toByte, yesNoByte s.gate] s

/-- READ_NOTIFY sent whole (R175). -/
def execReadNotify (s : State) : Result := event s (sendWhole .readNotify cmdReadNotify)

/-- CLEAR NOTIFY: each named flag is cleared (R140). -/
def cmdClearNotify (flags : Byte) (s : State) : State :=
  match CauseFlags.ofByte flags with
  | some f => replyResult .ok { s with flags := s.flags.without f }
  | none => replyResult .badValue s

/-- CLEAR_NOTIFY sent whole (R175). -/
def execClearNotify (flags : Byte) (s : State) : Result :=
  event s (sendWhole .clearNotify (cmdClearNotify flags))

end Sys2Proof.Machine
end

