-- ==== Sys2Proof/Machine/WindowCommands.lean ====
section
/-! DEFINITION. The window commands: OPEN_WINDOW, OPEN_RELOCATED_WINDOW, AMEND_WINDOW, RETIRE_WINDOW,
READ_WINDOW and PROBE (chapters 1, 6 and 10). -/

namespace Sys2Proof.Machine

/-- The result and a generation: the reply of an open or an amendment (R165, R166). -/
def replyGeneration (r : ResultCode) (g : Byte) (s : State) : State := reply [r.toByte, g] s

/-- The generation a slot holds, as a byte. -/
def generationByte (w : Slot) : Byte := countByte w.generation.val

/-- The generation byte of a reply: the slot's for a slot number in range, FFh otherwise (R165, R166). -/
def generationReply (s : State) (slot : Byte) : Byte :=
  match readFin 64 slot with
  | some n => generationByte (s.slot n)
  | none => 0xFF#8

/-- An address is a multiple of 2^k (R2, R3). -/
def alignedTo (k : Nat) (a : Address) : Bool := decide (a.toNat % 2 ^ k = 0)

/-! ## Opening -/

/-- A window whose parameters are in range, and whether the open is staged. -/
structure OpenRequest where
  slot : SlotId
  base : Address
  size : Nat
  precedence : Fin 8
  device : Device
  waits : Fin 16
  permissions : Byte
  watch : Watch
  staged : Bool
  relocation : Option Address
deriving DecidableEq, Repr

/-- The range checks of an open, alignment included (R165, check 1). -/
def readOpen (slot : Byte) (base : Address) (size precedence device waits permissions options : Byte)
    (relocation : Option Address) : Option OpenRequest :=
  match readFin 64 slot, readSize size, readFin 8 precedence, readFin 16 device, readFin 16 waits,
      readWindowOptions options with
  | some n, some k, some p, some d, some w, some (watch, staged) =>
    if alignedTo k base && (relocation.all (alignedTo k)) then
      some { slot := n, base := base, size := k, precedence := p, device := d, waits := w,
             permissions := permissions, watch := watch, staged := staged, relocation := relocation }
    else none
  | _, _, _, _, _, _ => none

/-- The slot as an open fills it: origin COMMAND, the generation advanced, the touched flag kept
(R9, R10, R11, R114, R115). -/
def OpenRequest.fill (q : OpenRequest) (w : Slot) : Slot :=
  { w with
    state := if q.staged then .staged else .live
    origin := .command, base := q.base, size := q.size, precedence := q.precedence, device := q.device,
    waits := q.waits, permissions := q.permissions, watch := q.watch, relocation := q.relocation,
    generation := w.generation + 1 }

/-- The checks of an open after the range checks, in order (R165, checks 2 to 4). -/
def openResult (s : State) (q : OpenRequest) : ResultCode :=
  if (s.slot q.slot).state ≠ .free then .slotInUse
  else if (s.device q.device).residency = .absent then .noDevice
  else if q.staged = false ∧ conflictsWithView s none (q.fill (s.slot q.slot)) then .overlap
  else .ok

/-- An open with its parameters in range (R114, R115). -/
def openSlot (q : OpenRequest) (s : State) : State :=
  if openResult s q = .ok then
    replyGeneration .ok (countByte ((s.slot q.slot).generation + 1).val)
      (addReference q.device (s.setSlot q.slot (q.fill (s.slot q.slot))))
  else replyGeneration (openResult s q) (generationByte (s.slot q.slot)) s

/-- An open with its parameters as sent (R165). -/
def cmdOpen (slot : Byte) (base : Address) (size precedence device waits permissions options : Byte)
    (relocation : Option Address) (s : State) : State :=
  match readOpen slot base size precedence device waits permissions options relocation with
  | some q => openSlot q s
  | none => replyGeneration .badValue (generationReply s slot) s

/-- OPEN_WINDOW sent whole (R114, R115, R165). -/
def execOpenWindow (slot : Byte) (base : Address) (size precedence device waits permissions options : Byte)
    (s : State) : Result :=
  event s (sendWhole .openWindow (cmdOpen slot base size precedence device waits permissions options none))

/-- OPEN_RELOCATED_WINDOW sent whole (R165). -/
def execOpenRelocatedWindow (slot : Byte) (base : Address) (size precedence device waits permissions options : Byte)
    (relocation : Address) (s : State) : Result :=
  event s (sendWhole .openRelocatedWindow
    (cmdOpen slot base size precedence device waits permissions options (some relocation)))

/-! ## Amending and retiring -/

/-- The expected generation is FFh or the slot's own (R113). -/
def generationMatches (expected : Byte) (w : Slot) : Bool :=
  decide (expected = 0xFF#8) || decide (expected.toNat = w.generation.val)

/-- The slot is LIVE or STAGED, so that its window may be amended or retired (R166, R167). -/
def Slot.editable (w : Slot) : Bool := w.state == .live || w.state == .staged

/-- The checks of an amendment after the range checks, in order (R166, checks 2 to 5). -/
def amendResult (s : State) (n : SlotId) (expected : Byte) (p : Fin 8) : ResultCode :=
  if (s.slot n).state = .free then .slotFree
  else if generationMatches expected (s.slot n) = false then .stale
  else if (s.slot n).editable = false then .wrongState
  else if (s.slot n).state = .live ∧ p ≠ (s.slot n).precedence ∧
      conflictsWithView s (some n) { s.slot n with precedence := p } then .overlap
  else .ok

/-- An amendment with its parameters in range (R116, R117). -/
def amendSlot (n : SlotId) (expected : Byte) (p : Fin 8) (waits : Fin 16) (permissions : Byte) (watch : Watch)
    (s : State) : State :=
  if amendResult s n expected p = .ok then
    replyGeneration .ok (countByte ((s.slot n).generation + 1).val)
      (s.setSlot n { s.slot n with precedence := p, waits := waits, permissions := permissions, watch := watch,
                                   generation := (s.slot n).generation + 1 })
  else replyGeneration (amendResult s n expected p) (generationByte (s.slot n)) s

/-- AMEND WINDOW (R166). -/
def cmdAmendWindow (slot generation precedence waits permissions watch : Byte) (s : State) : State :=
  match readFin 64 slot, readFin 8 precedence, readFin 16 waits, readWatch watch with
  | some n, some p, some w, some x => amendSlot n generation p w permissions x s
  | _, _, _, _ => replyGeneration .badValue (generationReply s slot) s

/-- AMEND_WINDOW sent whole (R116, R117, R166). -/
def execAmendWindow (slot generation precedence waits permissions watch : Byte) (s : State) : Result :=
  event s (sendWhole .amendWindow (cmdAmendWindow slot generation precedence waits permissions watch))

/-- The checks of a retirement after the range checks, in order (R167, checks 2 to 4). -/
def retireResult (s : State) (n : SlotId) (expected : Byte) : ResultCode :=
  if (s.slot n).state = .free then .slotFree
  else if generationMatches expected (s.slot n) = false then .stale
  else if (s.slot n).editable = false then .wrongState
  else .ok

/-- What a retirement that is taken does to the slot: a STAGED slot becomes FREE; a LIVE slot becomes MARKED
when staged, else DRAINING with claims bound or FREE without (R118, R119). -/
def retireTaken (n : SlotId) (staged : Bool) (s : State) : State :=
  if (s.slot n).state = .staged then freeSlot n s
  else if staged then s.setSlot n { s.slot n with state := .marked }
  else if (s.slot n).bound = 0 then freeSlot n s
  else s.setSlot n { s.slot n with state := .draining }

/-- A retirement with its parameters in range. -/
def retireSlot (n : SlotId) (expected : Byte) (staged : Bool) (s : State) : State :=
  if retireResult s n expected = .ok then replyResult .ok (retireTaken n staged s)
  else replyResult (retireResult s n expected) s

/-- RETIRE WINDOW (R167). -/
def cmdRetireWindow (slot generation staged : Byte) (s : State) : State :=
  match readFin 64 slot, readYesNo staged with
  | some n, some staged => retireSlot n generation staged s
  | _, _ => replyResult .badValue s

/-- RETIRE_WINDOW sent whole (R118, R119, R167). -/
def execRetireWindow (slot generation staged : Byte) (s : State) : Result :=
  event s (sendWhole .retireWindow (cmdRetireWindow slot generation staged))

/-! ## Reading -/

/-- The nineteen bytes of READ WINDOW (R168). -/
def slotReply (w : Slot) : List Byte :=
  [ResultCode.ok.toByte, slotStateByte w.state, originByte w.origin] ++ addressBytes w.base ++
    [countByte w.size, countByte w.precedence.val, countByte w.device.val, countByte w.waits.val, w.permissions,
     watchByte w.watch, yesNoByte w.relocation.isSome] ++ addressBytes (w.relocation.getD 0#24) ++
    [generationByte w, yesNoByte w.touched, countByte w.bound]

/-- READ WINDOW with its parameters in range: the reply takes the touched flag's value, and the clear option
then clears it (R11, R168). -/
def readSlot (n : SlotId) (clear : Bool) (s : State) : State :=
  reply (slotReply (s.slot n))
    (if clear then s.setSlot n { s.slot n with touched := false } else s)

/-- READ WINDOW (R168). -/
def cmdReadWindow (slot clear : Byte) (s : State) : State :=
  match readFin 64 slot, readYesNo clear with
  | some n, some c => readSlot n c s
  | _, _ => replyResult .badValue s

/-- READ_WINDOW sent whole (R168). -/
def execReadWindow (slot clear : Byte) (s : State) : Result :=
  event s (sendWhole .readWindow (cmdReadWindow slot clear))

/-! ## Probing -/

/-- The probe outcomes of Table 10-2. -/
inductive ProbeOutcome where
  | proceeds | caught | miss | straddle | denied
deriving DecidableEq, Repr

/-- Table 10-2, probe outcome. -/
def ProbeOutcome.toByte : ProbeOutcome → Byte
  | .proceeds => 0x00#8
  | .caught => 0x01#8
  | .miss => 0x02#8
  | .straddle => 0x03#8
  | .denied => 0x04#8

/-- How far a claim that wins a window would get (R170). -/
def probeWindow (w : Slot) (m : Master) (dir : Direction) : ProbeOutcome :=
  if w.grants m dir = false then .denied else if w.watch.catches dir then .caught else .proceeds

/-- The six bytes of PROBE (R170). -/
def probeReply (s : State) (m : Master) (dir : Direction) (w : Width) (a : Address) : List Byte :=
  match decideEnds s a w with
  | .straddle => [ResultCode.ok.toByte, ProbeOutcome.straddle.toByte, 0xFF#8, 0xFF#8, 0xFF#8, 0xFF#8]
  | .miss => [ResultCode.ok.toByte, ProbeOutcome.miss.toByte, 0xFF#8, 0xFF#8, 0xFF#8, 0xFF#8]
  | .fallback =>
    [ResultCode.ok.toByte, ProbeOutcome.proceeds.toByte, 0xFF#8, countByte s.fallbackDevice.val,
     residencyByte (s.device s.fallbackDevice).residency, 0x00#8]
  | .window n =>
    [ResultCode.ok.toByte, (probeWindow (s.slot n) m dir).toByte, countByte n.val, countByte (s.slot n).device.val,
     residencyByte (s.device (s.slot n).device).residency, watchByte (s.slot n).watch]

/-- PROBE (R170). -/
def cmdProbe (master direction width : Byte) (a : Address) (s : State) : State :=
  match readFin 4 master, readDirection direction, readWidth width with
  | some m, some dir, some w => reply (probeReply s m dir w a) s
  | _, _, _ => replyResult .badValue s

/-- PROBE sent whole (R170). -/
def execProbe (master direction width : Byte) (a : Address) (s : State) : Result :=
  event s (sendWhole .probe (cmdProbe master direction width a))

end Sys2Proof.Machine
end

