-- ==== Sys2Proof/Machine/PortAccesses.lean ====
section
/-! DEFINITION. The accesses of the management port, one byte at a time: COMMAND_BYTE, PARAMETER_BYTE,
REPLY_BYTE_READ and UNKNOWN_COMMAND (chapter 9). -/

namespace Sys2Proof.Machine

/-- A code that names no command: the reply is the one byte UNKNOWN_COMMAND (R151). -/
def cmdUnknown (s : State) : State := replyResult .unknownCommand s

/-- The command decoder on a complete record: the code's command with its parameter bytes as chapter 10 lays
them out (R152, R159). A record whose bytes are not as many as its code calls for never reaches the decoder. -/
def runRecord (code : CommandCode) (params : List Byte) (s : State) : State :=
  match code, params with
  | .identify, [] => cmdIdentify s
  | .defineDevice, [d, w, lo, hi, o] => cmdDefineDevice d w (hi ++ lo) o s
  | .forgetDevice, [d] => cmdForgetDevice d s
  | .wakeDevice, [d] => cmdWakeDevice d s
  | .parkDevice, [d] => cmdParkDevice d s
  | .clearFault, [d] => cmdClearFault d s
  | .readDevice, [d] => cmdReadDevice d s
  | .openWindow, [n, b0, b1, b2, k, p, d, w, g, o] => cmdOpen n (addressOf b0 b1 b2) k p d w g o none s
  | .openRelocatedWindow, [n, b0, b1, b2, k, p, d, w, g, o, r0, r1, r2] =>
    cmdOpen n (addressOf b0 b1 b2) k p d w g o (some (addressOf r0 r1 r2)) s
  | .amendWindow, [n, g, p, w, x, v] => cmdAmendWindow n g p w x v s
  | .retireWindow, [n, g, x] => cmdRetireWindow n g x s
  | .readWindow, [n, c] => cmdReadWindow n c s
  | .publish, [] => cmdPublish s
  | .discard, [] => cmdDiscard s
  | .probe, [m, dir, w, a0, a1, a2] => cmdProbe m dir w (addressOf a0 a1 a2) s
  | .interceptInfo, [] => cmdInterceptInfo s
  | .verdict, [m, v, d0, d1, d2, d3] => cmdVerdictByte m v (dataOf d0 d1 d2 d3) s
  | .setMissPolicy, [p, d, w] => cmdSetMissPolicy p d w s
  | .setLimits, [h, i] => cmdSetLimits h i s
  | .setNotifyMask, [f] => cmdSetNotifyMask f s
  | .readNotify, [] => cmdReadNotify s
  | .clearNotify, [f] => cmdClearNotify f s
  | .softReset, [] => cmdSoftReset s
  | _, _ => replyResult .badValue s

/-- A command byte that is taken: after the port's own steps it opens a record, and a command without
parameters executes at once (R150 to R153). -/
def openRecord (byte : Byte) (s : State) : State :=
  let t := takeCommandByte s
  match CommandCode.ofByte byte with
  | none => cmdUnknown t
  | some code =>
    if code.paramCount = 0 then runRecord code [] t
    else { t with port := { t.port with condition := .collecting code [] } }

/-- A write of the command/status location (R150, R156). -/
def writeCommand (byte : Byte) (s : State) : State :=
  match s.port.condition with
  | .executing _ _ => collide s
  | .idle | .collecting _ _ | .replying _ => openRecord byte s

/-- COMMAND_BYTE (R150, R156). -/
def execCommandByte (byte : Byte) (s : State) : Result := event s (writeCommand byte)

/-- UNKNOWN_COMMAND (R151): a command byte like any other, by R150. -/
def execUnknownCommand (code : Byte) (s : State) : Result := event s (writeCommand code)

/-- A parameter byte of a command being collected: the last one hands the record to the decoder (R152). -/
def addParameter (code : CommandCode) (params : List Byte) (byte : Byte) (s : State) : State :=
  if code.paramCount ≤ params.length + 1 then
    runRecord code (params ++ [byte]) { s with port := { s.port with condition := .idle } }
  else { s with port := { s.port with condition := .collecting code (params ++ [byte]) } }

/-- A write of the data location (R152, R155). -/
def writeData (byte : Byte) (s : State) : State :=
  match s.port.condition with
  | .collecting code params => addParameter code params byte s
  | .idle | .executing _ _ | .replying _ => orphan s

/-- PARAMETER_BYTE (R152, R155). -/
def execParameterByte (byte : Byte) (s : State) : Result := event s (writeData byte)

/-- The port after a reply byte has been removed: IDLE after the last one (R154). -/
def afterReplyByte (rest : List Byte) : PortCondition :=
  match rest with
  | [] => .idle
  | b :: more => .replying (b :: more)

/-- A read of the data location: the oldest reply byte, or 00h and ORPHAN (R154, R155). -/
def readData (s : State) : State :=
  match s.port.condition with
  | .replying (b :: rest) => { s with port := { s.port with condition := afterReplyByte rest }, md := some b }
  | .replying [] | .idle | .collecting _ _ | .executing _ _ => { orphan s with md := some 0x00#8 }

/-- REPLY_BYTE_READ (R154, R155). While PORN is low no access is taken and the byte on MD is not defined
(R129): a free value (assumption 8). -/
def execReplyByteRead (s : State) : Result :=
  .next (if s.inReset then { s.quiet with md := some (Config.undefinedByte s.freeCount), freeCount := s.freeCount + 1 }
         else readData s.quiet)

end Sys2Proof.Machine
end

