-- ==== Sys2Proof/Machine/TimerEvents.lean ====
section
/-! DEFINITION. The timebase, the timer expiries and the power-good departures: TICK, WAKE_TIMER_EXPIRY,
IDLE_TIMER_EXPIRY, HOLD_TIMER_EXPIRY, INTERCEPT_TIMER_EXPIRY and DEPARTURE_FROM_CONFORMITY
(chapters 3, 4 and 5). -/

namespace Sys2Proof.Machine

/-- A tick at a claim's hold or intercept timer (R83, R98). -/
def Claim.tick (c : Claim) : Claim := { c with timer := c.timer.map Timer.tick }

/-- A tick at a device's wake and idle timers (R58). -/
def DeviceRecord.tick (r : DeviceRecord) : DeviceRecord :=
  { r with wakeTimer := r.wakeTimer.map Timer.tick, idleTimer := r.idleTimer.map Timer.tick }

/-- A tick at the timer of a PUBLISH or SOFT RESET in progress (R122, R134). -/
def PortCondition.tick : PortCondition → PortCondition
  | .executing op t => .executing op t.tick
  | .idle => .idle
  | .collecting code params => .collecting code params
  | .replying bytes => .replying bytes

/-- A tick is delivered to every timer, and the divider starts its next 32 periods (R57). -/
def tickAll (s : State) : State :=
  { s with
    claims := mapTable (fun _ c => Option.map Claim.tick c) s.claims
    devices := mapTable (fun _ r => r.tick) s.devices
    port := { s.port with condition := s.port.condition.tick }
    divider := 0 }

/-- TICK (R57, R58). -/
def execTick (s : State) : Result := event s tickAll

/-- The level of PGD sampled at an event that reads it (R54). -/
def samplePgd (d : Device) (level : Bool) (s : State) : State := { s with pgd := s.pgd.set d level }

/-- The device is in conformity at the level last sampled (R54). -/
def inConformity (s : State) (d : Device) : Bool := (s.device d).sense.conforms (s.pgdLevel d)

/-- The expiry of the wake timer of a WAKING device, with PGD as it then stands: ON, or FAULT with cause
NO_POWER_GOOD (R63, R64). -/
def endWake (d : Device) (level : Bool) (s : State) : State :=
  let t := samplePgd d level s
  if inConformity t d then enterOn d t
  else enterFault d .noPowerGood (t.holdList.filter (boundTo t d)) t

/-- WAKE_TIMER_EXPIRY (R63, R64). An expiry that is not due is no event (assumption 4). -/
def execWakeTimerExpiry (d : Device) (level : Bool) (s : State) : Result :=
  event s fun s =>
    if (s.device d).residency = .waking ∧ timerDue (s.device d).wakeTimer then endWake d level s else s

/-- The expiry of the idle timer of an ON device (R67). -/
def endIdle (d : Device) (s : State) : State :=
  if hasWork s d then s.setDevice d { s.device d with idleTimer := Timer.load (s.device d).idleLimit }
  else powerOff d s

/-- IDLE_TIMER_EXPIRY (R67). -/
def execIdleTimerExpiry (d : Device) (s : State) : Result :=
  event s fun s =>
    if (s.device d).residency = .on ∧ timerDue (s.device d).idleTimer then endIdle d s else s

/-- HOLD_TIMER_EXPIRY (R87): the held claim is answered HOLD_TIMEOUT and TIMEOUT is raised. -/
def execHoldTimerExpiry (m : Master) (s : State) : Result :=
  event s fun s =>
    match s.claim m with
    | some c =>
      if c.phase = .held ∧ timerDue c.timer then raise .timeout (answerClaim m c.access .holdTimeout 0#32 s) else s
    | none => s

/-- INTERCEPT_TIMER_EXPIRY (R105): the caught claim is answered INTERCEPT_TIMEOUT, its master's marker is set
and TIMEOUT is raised. -/
def execInterceptTimerExpiry (m : Master) (s : State) : Result :=
  event s fun s =>
    match s.claim m with
    | some c =>
      if c.phase = .intercept ∧ timerDue c.timer then
        raise .timeout ((answerClaim m c.access .interceptTimeout 0#32 s).setMarker m true)
      else s
    | none => s

/-- The level of PGD that a sense does not accept; IGNORE accepts both (R54). -/
def Sense.badLevel : Sense → Option Bool
  | .ignore => none
  | .high => some false
  | .low => some true

/-- A device that is ON or PARKING loses its power good: FAULT with cause POWER_LOST; its ACTIVE claim, then
its ready claims, then its held claims are answered DEVICE_FAULT (R46, R71). -/
def losePower (d : Device) (s : State) : State :=
  enterFault d .powerLost ((activeMaster s ++ s.readyList ++ s.holdList).filter (boundTo s d)) s

/-- DEPARTURE_FROM_CONFORMITY (R54, R71): a change of PGD that takes an ON or PARKING device from conformity to
non-conformity. In every other case the change is no event. -/
def execDepartureFromConformity (d : Device) (s : State) : Result :=
  event s fun s =>
    match (s.device d).sense.badLevel with
    | none => s
    | some level =>
      if ((s.device d).residency = .on ∨ (s.device d).residency = .parking) ∧ inConformity s d then
        losePower d (samplePgd d level s)
      else s

end Sys2Proof.Machine
end

