-- ==== Sys2Proof/Machine/Dispatch.lean ====
section
/-! DEFINITION. The meaning of every command, one arm each. -/

namespace Sys2Proof.Machine

def exec (i : Instr) (s : State) : Host.Outcome State Fault Refusal :=
  match i with
  | .claimArrival m a dir w d => Sys2Proof.Machine.execClaimArrival m a dir w d s
  | .grant => Sys2Proof.Machine.execGrant s
  | .completion r => Sys2Proof.Machine.execCompletion r s
  | .tick => Sys2Proof.Machine.execTick s
  | .wakeTimerExpiry d pgd => Sys2Proof.Machine.execWakeTimerExpiry d pgd s
  | .idleTimerExpiry d => Sys2Proof.Machine.execIdleTimerExpiry d s
  | .holdTimerExpiry m => Sys2Proof.Machine.execHoldTimerExpiry m s
  | .interceptTimerExpiry m => Sys2Proof.Machine.execInterceptTimerExpiry m s
  | .departureFromConformity d => Sys2Proof.Machine.execDepartureFromConformity d s
  | .powerOnReset => Sys2Proof.Machine.execPowerOnReset s
  | .endOfPowerOnReset bsz bwt bpg => Sys2Proof.Machine.execEndOfPowerOnReset bsz bwt bpg s
  | .busReset => Sys2Proof.Machine.execBusReset s
  | .commandByte b => Sys2Proof.Machine.execCommandByte b s
  | .parameterByte b => Sys2Proof.Machine.execParameterByte b s
  | .replyByteRead => Sys2Proof.Machine.execReplyByteRead s
  | .unknownCommand c => Sys2Proof.Machine.execUnknownCommand c s
  | .identify => Sys2Proof.Machine.execIdentify s
  | .defineDevice d w l o => Sys2Proof.Machine.execDefineDevice d w l o s
  | .forgetDevice d => Sys2Proof.Machine.execForgetDevice d s
  | .wakeDevice d => Sys2Proof.Machine.execWakeDevice d s
  | .parkDevice d => Sys2Proof.Machine.execParkDevice d s
  | .clearFault d => Sys2Proof.Machine.execClearFault d s
  | .readDevice d => Sys2Proof.Machine.execReadDevice d s
  | .openWindow n b k p d w g o => Sys2Proof.Machine.execOpenWindow n b k p d w g o s
  | .openRelocatedWindow n b k p d w g o r => Sys2Proof.Machine.execOpenRelocatedWindow n b k p d w g o r s
  | .amendWindow n g p w x v => Sys2Proof.Machine.execAmendWindow n g p w x v s
  | .retireWindow n g x => Sys2Proof.Machine.execRetireWindow n g x s
  | .readWindow n c => Sys2Proof.Machine.execReadWindow n c s
  | .publish => Sys2Proof.Machine.execPublish s
  | .publishCompletion => Sys2Proof.Machine.execPublishCompletion s
  | .discard => Sys2Proof.Machine.execDiscard s
  | .probe m dir w a => Sys2Proof.Machine.execProbe m dir w a s
  | .interceptInfo => Sys2Proof.Machine.execInterceptInfo s
  | .verdictPass m d => Sys2Proof.Machine.execVerdictPass m d s
  | .verdictRefuse m d => Sys2Proof.Machine.execVerdictRefuse m d s
  | .verdictSupply m d => Sys2Proof.Machine.execVerdictSupply m d s
  | .setMissPolicy p d w => Sys2Proof.Machine.execSetMissPolicy p d w s
  | .setLimits h l => Sys2Proof.Machine.execSetLimits h l s
  | .setNotifyMask f => Sys2Proof.Machine.execSetNotifyMask f s
  | .readNotify => Sys2Proof.Machine.execReadNotify s
  | .clearNotify f => Sys2Proof.Machine.execClearNotify f s
  | .softReset => Sys2Proof.Machine.execSoftReset s
  | .softResetCompletion => Sys2Proof.Machine.execSoftResetCompletion s

end Sys2Proof.Machine
end

