-- ==== Sys2Proof/Safety.lean ====
section
/-! DEFINITION. What counts as a lawful state of the WD64, in the terms the statements use: the spec's laws of
the device ("this is a law of the device"), each a predicate on one state, and the words the statements use for
what one answer does. -/

namespace Sys2Proof.Machine

/-! ## Words about claims -/

/-- The phase of a master's claim, `none` when it has none in flight (R29). -/
def State.phaseOf (s : State) (m : Master) : Option Phase := (s.claim m).map Claim.phase

/-- The device a master's claim is bound to. -/
def State.deviceOf (s : State) (m : Master) : Option Device := (s.claim m).map fun c => c.access.device

/-- The slot a binding names. -/
def Binding.slotId : Binding → Option SlotId
  | .fallback => none
  | .slot n _ => some n

/-- The slot a master's claim is bound to; `none` for a claim bound to FALLBACK and for no claim. -/
def State.slotOf (s : State) (m : Master) : Option SlotId := (s.claim m).bind fun c => c.access.binding.slotId

/-- How many of the given masters have a claim bound to a slot. -/
def boundAmong (s : State) (ms : List Master) (n : SlotId) : Nat := ms.countP fun m => decide (s.slotOf m = some n)

/-- How many of the given masters have a claim bound to a device. -/
def deviceAmong (s : State) (ms : List Master) (d : Device) : Nat :=
  ms.countP fun m => decide (s.deviceOf m = some d)

/-! ## What one answer does (R11, R12, R13, R44, R56) -/

/-- The slot that an answered claim was bound to. -/
def Slot.answered (w : Slot) (r : Reason) : Slot :=
  { w with touched := w.touched || r.touches, bound := w.bound - 1,
           state := if w.state = .draining ∧ w.bound ≤ 1 then .free else w.state }

/-- A slot after the answer of a claim with a binding. -/
def slotAfterAnswer (s : State) (b : Binding) (r : Reason) (n : SlotId) : Slot :=
  if b.slotId = some n then (s.slot n).answered r else s.slot n

/-- The answer of a claim with a binding frees a DRAINING slot of a device (R13). -/
def freesSlotOf (s : State) (b : Binding) (d : Device) : Bool :=
  match b.slotId with
  | some n => decide ((s.slot n).state = .draining ∧ (s.slot n).bound ≤ 1 ∧ (s.slot n).device = d)
  | none => false

/-- A device record after the answer of a master's claim. -/
def deviceAfterAnswer (s : State) (m : Master) (a : Access) (d : Device) : DeviceRecord :=
  { s.device d with
    refCount := (s.device d).refCount - (if freesSlotOf s a.binding d then 1 else 0)
    heldCount := (s.device d).heldCount - (if m ∈ s.holdList ∧ a.device = d then 1 else 0) }

/-- A slot after the claims of several masters have been answered in one event, none of them DONE or
SUPPLIED (R12, R13). -/
def slotAfterAnswers (s : State) (ms : List Master) (n : SlotId) : Slot :=
  let k := boundAmong s ms n
  { s.slot n with bound := (s.slot n).bound - k,
                  state := if (s.slot n).state = .draining ∧ 0 < k ∧ (s.slot n).bound ≤ k then .free
                           else (s.slot n).state }

/-! ## Laws of the directory -/

/-- R2, R3: the size exponent is 8 to 20, and the base and a relocation are multiples of the size. -/
def Slot.Shaped (w : Slot) : Prop :=
  8 ≤ w.size ∧ w.size ≤ 20 ∧ w.base.toNat % 2 ^ w.size = 0 ∧
    (w.relocation.getD 0#24).toNat % 2 ^ w.size = 0

/-- R2, R3 for every slot. -/
def SlotsShaped (s : State) : Prop := ∀ n, (s.slot n).Shaped

/-- R22: no two windows of the matching view conflict. -/
def EqualPrecedenceLaw (s : State) : Prop :=
  ∀ n m, n ≠ m → (s.slot n).inView = true → (s.slot m).inView = true → (s.slot n).conflicts (s.slot m) = false

/-- The number of references to a device: the non-FREE slots naming it, plus one when the miss policy is
FALLBACK and it is the fallback device. -/
def references (s : State) (d : Device) : Nat :=
  countSlots (fun w => decide (w.state ≠ .free ∧ w.device = d)) s.slots +
    (if s.missPolicy = .fallback ∧ s.fallbackDevice = d then 1 else 0)

/-- R55: each reference count is the number of references. -/
def ReferenceLaw (s : State) : Prop := ∀ d, (s.device d).refCount = references s d

/-- R5: a slot that is not FREE names a device that is not ABSENT, and so does the fallback under FALLBACK. -/
def NamedDeviceLaw (s : State) : Prop :=
  (∀ n, (s.slot n).state ≠ .free → (s.device (s.slot n).device).residency ≠ .absent) ∧
    (s.missPolicy = .fallback → (s.device s.fallbackDevice).residency ≠ .absent)

/-! ## Laws of the claims -/

/-- R29, R39: each list holds a master once, a master stands in a list exactly when its claim has the list's
phase, the cycle is that of the one ACTIVE claim with the pins of R41, and no claim is in flight during a soft
reset (R49). -/
def PlacesLaw (s : State) : Prop :=
  s.interceptList.Nodup ∧ s.holdList.Nodup ∧ s.readyList.Nodup ∧
    (∀ m, m ∈ s.interceptList ↔ s.phaseOf m = some .intercept) ∧
    (∀ m, m ∈ s.holdList ↔ s.phaseOf m = some .held) ∧
    (∀ m, m ∈ s.readyList ↔ s.phaseOf m = some .ready) ∧
    (∀ m, s.phaseOf m = some .active ↔ s.cycle.map DeviceCycle.master = some m) ∧
    (∀ cy ∈ s.cycle, ∀ c ∈ s.claim cy.master, cy = cycleOf cy.number cy.master c.access) ∧
    (softResetting s = true → ∀ m, s.claim m = none)

/-- R43: the cycle in progress has a number that was given, so a later cycle has another one. -/
def CycleNumberLaw (s : State) : Prop := ∀ cy ∈ s.cycle, cy.number < s.cyclesBegun

/-- R12, R13: each bound count is the number of claims in flight bound to the slot; a FREE or STAGED slot has
none and a DRAINING slot at least one; and a claim bound to a slot has the slot's device (R34). -/
def BoundLaw (s : State) : Prop :=
  (∀ n, (s.slot n).bound = boundAmong s allMasters n) ∧
    (∀ n, (s.slot n).state = .free ∨ (s.slot n).state = .staged → (s.slot n).bound = 0) ∧
    (∀ n, (s.slot n).state = .draining → 1 ≤ (s.slot n).bound) ∧
    (∀ m n, s.slotOf m = some n → s.deviceOf m = some (s.slot n).device)

/-- R28, R83, R98: a claim's timer runs in INTERCEPT and HELD and is absent in READY and ACTIVE, and write data
are present for a WRITE alone, as many bytes as the width names. The limits are 1 to 250 ticks (R80, R97). -/
def Claim.Shaped (c : Claim) : Prop :=
  ((c.phase = .intercept ∨ c.phase = .held) ↔ c.timer.isSome = true) ∧
    (c.timer.all fun t => decide (1 ≤ t.left) && decide (t.left ≤ 250)) = true ∧
    (c.access.writeData.isSome = true ↔ c.access.direction = .write) ∧
    (c.access.writeData.all fun b => decide (b.length = c.access.width.bytes)) = true

/-- Every claim in flight is shaped as Table 2-1 says, and so are the two limits. -/
def ClaimsShaped (s : State) : Prop :=
  (∀ m, ∀ c ∈ s.claim m, c.Shaped) ∧ (1 ≤ s.holdLimit ∧ s.holdLimit ≤ 250) ∧
    (1 ≤ s.interceptLimit ∧ s.interceptLimit ≤ 250)

/-! ## Laws of the devices -/

/-- PEN is asserted exactly in WAKING, ON and PARKING (R53); the fault cause is NONE outside FAULT and recorded
in it (Table 3-1); the wake timer runs exactly in WAKING and the idle timer exactly in ON with an idle limit
above 0 (Table 3-2, R66); and the parameters and the timers are in range. -/
def DeviceRecord.Lawful (r : DeviceRecord) : Prop :=
  (r.pen = true ↔ r.residency = .waking ∨ r.residency = .on ∨ r.residency = .parking) ∧
    (r.faultCause = .none ↔ r.residency ≠ .fault) ∧
    (r.wakeTimer.isSome = true ↔ r.residency = .waking) ∧
    (r.idleTimer.isSome = true ↔ r.residency = .on ∧ 0 < r.idleLimit) ∧
    (1 ≤ r.wakeTime ∧ r.wakeTime ≤ 250 ∧ r.idleLimit ≤ 60000) ∧
    (r.wakeTimer.all fun t => decide (1 ≤ t.left) && decide (t.left ≤ 250)) = true ∧
    (r.idleTimer.all fun t => decide (1 ≤ t.left) && decide (t.left ≤ 60000)) = true

/-- Every device record is lawful. -/
def DevicesLawful (s : State) : Prop := ∀ d, (s.device d).Lawful

/-- An ON or PARKING device is in conformity, since a departure sends it to FAULT (R54, R71). -/
def ConformityLaw (s : State) : Prop :=
  ∀ d, (s.device d).residency = .on ∨ (s.device d).residency = .parking → inConformity s d = true

/-- R56: each held count is the number of claims in the hold list bound to the device. -/
def HeldCountLaw (s : State) : Prop := ∀ d, (s.device d).heldCount = deviceAmong s s.holdList d

/-- The residency that a claim's phase allows its device (R73); an intercepted claim does not ask. -/
def phaseAllows (p : Phase) (r : Residency) : Prop :=
  match p with
  | .intercept => True
  | .held => r = .waking ∨ r = .parking
  | .ready | .active => r = .on ∨ r = .parking

/-- R73: a held claim's device is WAKING or PARKING, and a ready or active claim's device is ON or PARKING. -/
def ResidencyLaw (s : State) : Prop :=
  ∀ m, ∀ c ∈ s.claim m, phaseAllows c.phase (s.device c.access.device).residency

/-! ## Laws of the port -/

/-- R148, R152: a record being collected still lacks a parameter, a reply has 1 to 20 unread bytes, and the
timer of an operation has 1 or 2 ticks left. -/
def PortCondition.Lawful : PortCondition → Prop
  | .idle => True
  | .collecting code params => params.length < code.paramCount
  | .executing _ t => 1 ≤ t.left ∧ t.left ≤ 2
  | .replying bytes => bytes ≠ [] ∧ bytes.length ≤ 20

/-- The port's condition is lawful. -/
def PortLaw (s : State) : Prop := s.port.condition.Lawful

/-! ## Words about commands -/

/-- Run several commands one after another, as a queue of them runs. -/
def runAll : List Instr → State → Result
  | [], s => .next s
  | c :: rest, s =>
    match exec c s with
    | .next t => runAll rest t
    | .fault r => .fault r
    | .refused r => .refused r

/-- An open command, with a relocation base or without. -/
def openCommand (slot : Byte) (base : Address) (size precedence device waits permissions options : Byte) :
    Option Address → Instr
  | none => .openWindow slot base size precedence device waits permissions options
  | some r => .openRelocatedWindow slot base size precedence device waits permissions options r

/-- The bytes of a management command as the port receives them: its code and its parameter bytes
(Table 10-1 and the layouts of chapter 10). -/
def commandBytes : Instr → Option (CommandCode × List Byte)
  | .identify => some (.identify, [])
  | .defineDevice d w l o => some (.defineDevice, [d, w, l.extractLsb' 0 8, l.extractLsb' 8 8, o])
  | .forgetDevice d => some (.forgetDevice, [d])
  | .wakeDevice d => some (.wakeDevice, [d])
  | .parkDevice d => some (.parkDevice, [d])
  | .clearFault d => some (.clearFault, [d])
  | .readDevice d => some (.readDevice, [d])
  | .openWindow n b k p d w g o => some (.openWindow, [n] ++ addressBytes b ++ [k, p, d, w, g, o])
  | .openRelocatedWindow n b k p d w g o r =>
    some (.openRelocatedWindow, [n] ++ addressBytes b ++ [k, p, d, w, g, o] ++ addressBytes r)
  | .amendWindow n g p w x v => some (.amendWindow, [n, g, p, w, x, v])
  | .retireWindow n g x => some (.retireWindow, [n, g, x])
  | .readWindow n c => some (.readWindow, [n, c])
  | .publish => some (.publish, [])
  | .discard => some (.discard, [])
  | .probe m dir w a => some (.probe, [m, dir, w] ++ addressBytes a)
  | .interceptInfo => some (.interceptInfo, [])
  | .verdictPass m d => some (.verdict, [m, 0x00#8] ++ laneBytes .four d)
  | .verdictRefuse m d => some (.verdict, [m, 0x01#8] ++ laneBytes .four d)
  | .verdictSupply m d => some (.verdict, [m, 0x02#8] ++ laneBytes .four d)
  | .setMissPolicy p d w => some (.setMissPolicy, [p, d, w])
  | .setLimits h i => some (.setLimits, [h, i])
  | .setNotifyMask f => some (.setNotifyMask, [f])
  | .readNotify => some (.readNotify, [])
  | .clearNotify f => some (.clearNotify, [f])
  | .softReset => some (.softReset, [])
  | .claimArrival .. | .grant | .completion .. | .tick | .wakeTimerExpiry .. | .idleTimerExpiry _
  | .holdTimerExpiry _ | .interceptTimerExpiry _ | .departureFromConformity _ | .powerOnReset
  | .endOfPowerOnReset .. | .busReset | .commandByte _ | .parameterByte _ | .replyByteRead
  | .unknownCommand _ | .publishCompletion | .softResetCompletion => none

/-- The answers of several masters' claims with one reason and 00h on CRD, in order. -/
def answersOf (ms : List Master) (r : Reason) : List Answer :=
  ms.map fun m => { master := m, reason := r, data := 0#32 }

end Sys2Proof.Machine
end

