-- ==== Sys2Proof/Certificates/Slice0/Obligations.lean ====
section
/-! DEFINITION. The statements about the WD64. Each names the rules it rests on; `s.quiet` is the state with no
output of an earlier event, and `takeCommandByte s.quiet` is the state that a command handed to the decoder finds
(CommandByteOpensARecord says what it holds). An equation for the next state says what changes and that nothing else
does. Three conventions are the model's own: the outputs of an earlier event are gone (assumption 7), a management
command is one event (assumption 5, stated by WholeCommandIsItsBytes), and a timer's expiry is due from the tick that
would lower it to 0 until it is taken (assumption 3). -/

open Sys2Proof Sys2Proof.Machine

/-! ## The machine -/

/-- A step takes the command at the front of the queue and runs it with the queue's rest; with no command waiting
the block idles, which is the model's choice (assumption 11). -/
def Obligations.StepRunsTheFrontCommand : Prop :=
  (∀ (c : Instr) (rest : List Instr) (s : State),
    step { s with pending := c :: rest } = exec c { s with pending := rest }) ∧
  (∀ s : State, s.pending = [] → step s = .next s)

/-- Every command answers a next state in every state, and leaves the queue alone. That a command naming an event
which cannot happen in a state is passed over, and does not stop, is the model's choice (assumption 4), and so is
the queue (assumption 11). -/
def Obligations.EveryCommandAnswersANextState : Prop :=
  ∀ (c : Instr) (s : State), ∃ t, exec c s = .next t ∧ t.pending = s.pending

/-- R129: while PORN is low nothing is taken. Every command but the end of power-on reset leaves every record as
it is; only a read of the data location shows a byte, which is not defined. -/
def Obligations.NothingIsTakenWhilePornIsLow : Prop :=
  ∀ (c : Instr) (s : State), s.inReset = true → (∀ x y z, c ≠ .endOfPowerOnReset x y z) →
    ∃ t, exec c s = .next t ∧ t = { s.quiet with md := t.md, freeCount := t.freeCount } ∧
      (c ≠ .replyByteRead → t = s.quiet)

/-! ## Resets -/

/-- R129: PORN going low drops every claim without an answer, abandons every command, and drives every output to
its inactive level. -/
def Obligations.PowerOnResetDropsEverything : Prop :=
  ∀ s : State, s.inReset = false →
    ∃ t, exec .powerOnReset s = .next t ∧ t.inReset = true ∧ t.answers = [] ∧ (∀ m, t.claim m = none) ∧
      t.interceptList = [] ∧ t.holdList = [] ∧ t.readyList = [] ∧ t.cycle = none ∧
      (∀ d, (t.device d).pen = false) ∧ t.mirq = false ∧ t.port.condition = .idle ∧ t.divider = 0 ∧ t.md = none

/-- R24, R74, R130, R131: the end of power-on reset latches the straps and builds every record. -/
def Obligations.EndOfPowerOnResetBuildsEveryRecord : Prop :=
  ∀ (s : State) (bsz bwt bpg : BitVec 2), s.inReset = true →
    ∃ t, exec (.endOfPowerOnReset bsz bwt bpg) s = .next t ∧ t.inReset = false ∧
      t.straps = { bsz := bsz, bwt := bwt, bpg := bpg } ∧
      (∃ k b w, (bsz, k, b) ∈ [(0#2, 16, 0xFF0000#24), (1#2, 17, 0xFE0000#24), (2#2, 18, 0xFC0000#24),
          (3#2, 19, 0xF80000#24)] ∧ (bwt, w) ∈ [(0#2, (0 : Fin 16)), (1#2, 4), (2#2, 8), (3#2, 15)] ∧
        t.slot 0 = { state := .live, origin := .strap, base := b, size := k, precedence := 0, device := 0, waits := w,
                     permissions := 0x55#8, watch := .off, relocation := none, generation := 0, touched := false,
                     bound := 0 }) ∧
      (∀ n, n ≠ 0 → t.slot n =
        { state := .free, origin := .command, base := 0#24, size := 8, precedence := 0, device := 0, waits := 0,
          permissions := 0x00#8, watch := .off, relocation := none, generation := 0, touched := false, bound := 0 }) ∧
      (∃ x, (bpg, x) ∈ [(0#2, Sense.ignore), (1#2, .high), (2#2, .low), (3#2, .high)] ∧
        t.device 0 = { residency := .waking, wakeTime := 16, idleLimit := 0, idleTimer := none,
                       wakeTimer := some { left := 16, due := false }, autoWake := true, sense := x, refCount := 1,
                       heldCount := 0, faultCause := .none, pen := true }) ∧
      (∀ d, d ≠ 0 → t.device d =
        { residency := .absent, wakeTime := 1, idleLimit := 0, idleTimer := none, wakeTimer := none,
          autoWake := false, sense := .ignore, refCount := 0, heldCount := 0, faultCause := .none, pen := false }) ∧
      t.missPolicy = .abort ∧ t.fallbackDevice = 0 ∧ t.fallbackWaits = 0 ∧ (∀ m, t.claim m = none) ∧
      t.interceptList = [] ∧ t.holdList = [] ∧ t.readyList = [] ∧ t.cycle = none ∧ t.holdLimit = 50 ∧
      t.interceptLimit = 20 ∧ (∀ m, t.marker m = false) ∧ t.divider = 0 ∧ t.flags = .clear ∧ t.mask = .clear ∧
      t.gate = false ∧
      t.port = { condition := .idle, orphan := false, collision := false, abandoned := false } ∧
      t.answers = [] ∧ t.md = none ∧ t.penPulses = [] ∧ t.pgd = s.pgd ∧ t.cyclesBegun = s.cyclesBegun ∧
      t.freeCount = s.freeCount ∧
      t.pending = s.pending

/-- R26, R50, R78, R94, R111: a bus reset drops every claim without an answer, empties the lists, frees the bus,
clears the markers, zeroes the bound and held counts, frees DRAINING slots and sends PARKING devices to OFF. -/
def Obligations.BusResetDropsEveryClaim : Prop :=
  ∀ s : State, s.inReset = false → ReferenceLaw s →
    ∃ t, exec .busReset s = .next t ∧
      t = { s.quiet with claims := t.claims, interceptList := [], holdList := [], readyList := [], cycle := none,
                         markers := t.markers, slots := t.slots, devices := t.devices } ∧
      (∀ m, t.claim m = none ∧ t.marker m = false) ∧
      (∀ n, t.slot n = { s.slot n with
        bound := 0, state := if (s.slot n).state = .draining then .free else (s.slot n).state }) ∧
      (∀ d, t.device d = { s.device d with
        heldCount := 0, refCount := references t d
        residency := if (s.device d).residency = .parking then .off else (s.device d).residency
        pen := (s.device d).pen && decide ((s.device d).residency ≠ .parking) })

/-- R48, R76, R110, R134, R153: the start of a soft reset answers every claim in flight RESET, clears the markers,
sends PARKING devices to OFF and makes the port EXECUTING with a timer of 2. -/
def Obligations.SoftResetAnswersEveryClaim : Prop :=
  ∀ s : State, s.inReset = false → s.port.busy = false → PlacesLaw s → HeldCountLaw s → ReferenceLaw s →
    let s₀ := takeCommandByte s.quiet
    let ms := s.interceptList ++ s.holdList ++ s.readyList ++ activeMaster s
    ∃ t, exec .softReset s = .next t ∧
      t = { s₀ with answers := answersOf ms .reset, claims := t.claims, interceptList := [], holdList := [],
                    readyList := [], cycle := none, markers := t.markers, slots := t.slots, devices := t.devices,
                    port := { s₀.port with condition := .executing .softReset { left := 2, due := false } } } ∧
      (∀ m, (m ∈ ms ↔ (s.claim m).isSome = true) ∧ t.claim m = none ∧ t.marker m = false) ∧
      (∀ n, t.slot n = slotAfterAnswers s ms n) ∧
      (∀ d, t.device d = { s.device d with
        heldCount := 0, refCount := references t d
        residency := if (s.device d).residency = .parking then .off else (s.device d).residency
        pen := (s.device d).pen && decide ((s.device d).residency ≠ .parking) })

/-- R25, R77, R93, R110, R135, R146, R158: the completion of a soft reset rebuilds the start-up objects from the
latched straps, sets DONE alone and replies OK. -/
def Obligations.SoftResetCompletionRebuildsTheStartUpObjects : Prop :=
  ∀ (s : State) (left : Nat), s.inReset = false →
    s.port.condition = .executing .softReset { left := left, due := true } →
    ∃ t, exec .softResetCompletion s = .next t ∧
      t = { s.quiet with
        slots := t.slots, devices := t.devices, missPolicy := .abort, fallbackDevice := 0, fallbackWaits := 0
        holdLimit := 50, interceptLimit := 20
        flags := { intercept := false, fault := false, timeout := false, done := true, port := false }
        port := { s.port with condition := .replying [0x00#8] } } ∧
      t.slot 0 = { state := .live, origin := .strap, base := BitVec.ofNat 24 (0x1000000 - 2 ^ (16 + s.straps.bsz.toNat)),
                   size := 16 + s.straps.bsz.toNat, precedence := 0, device := 0, waits := bootWaits s.straps,
                   permissions := 0x55#8, watch := .off, relocation := none, generation := (s.slot 0).generation + 1,
                   touched := false, bound := 0 } ∧
      (∀ n, n ≠ 0 → t.slot n = { s.slot n with state := .free, touched := false, bound := 0 }) ∧
      ((s.device 0).residency = .on → t.device 0 = { s.device 0 with refCount := 1 }) ∧
      ((s.device 0).residency ≠ .on → t.device 0 =
        { residency := .waking, wakeTime := 16, idleLimit := 0, idleTimer := none,
          wakeTimer := some { left := 16, due := false }, autoWake := true, sense := bootSense s.straps, refCount := 1,
          heldCount := 0, faultCause := .none, pen := true }) ∧
      (∀ d, d ≠ 0 → t.device d = { s.device d with
        residency := .absent, pen := false, wakeTimer := none, idleTimer := none, heldCount := 0, refCount := 0,
        faultCause := .none })

/-! ## Claims -/

/-- Events that cannot happen in a state change nothing: a claim of a master that has one in flight (R27), a grant
of a busy bus or of an empty ready list (R40), a response to no cycle or to another cycle than the one in progress, as
the late response of a cut cycle is (R43, R177; its number is assumption 18), an expiry of a timer that is not due
(R58), a completion that is not due (R122, R134), and a change of PGD that is no departure (R54). That such a command
leaves the state as it is, where the spec does not say so, is the model's choice (assumption 4). -/
def Obligations.EventsThatCannotHappenChangeNothing : Prop :=
  ∀ s : State,
    (∀ m a dir w x, (s.claim m).isSome = true → exec (.claimArrival m a dir w x) s = .next s.quiet) ∧
    (s.cycle.isSome = true ∨ s.readyList = [] → exec .grant s = .next s.quiet) ∧
    (∀ r, (∀ cy ∈ s.cycle, cy.number ≠ r.cycle) → exec (.completion r) s = .next s.quiet) ∧
    (∀ d x, timerDue (s.device d).wakeTimer = false → exec (.wakeTimerExpiry d x) s = .next s.quiet) ∧
    (∀ d, timerDue (s.device d).idleTimer = false → exec (.idleTimerExpiry d) s = .next s.quiet) ∧
    (∀ m, (∀ c ∈ s.claim m, timerDue c.timer = false) →
      exec (.holdTimerExpiry m) s = .next s.quiet ∧ exec (.interceptTimerExpiry m) s = .next s.quiet) ∧
    ((∀ op t, s.port.condition = .executing op t → t.due = false) →
      exec .publishCompletion s = .next s.quiet ∧ exec .softResetCompletion s = .next s.quiet) ∧
    (∀ d, (s.device d).sense = .ignore ∨ ((s.device d).residency ≠ .on ∧ (s.device d).residency ≠ .parking) →
      exec (.departureFromConformity d) s = .next s.quiet)

/-- R27, R31, R35, R49, R106: the claims answered in their arrival event. During a soft reset the answer is RESET; a
last byte beyond FFFFFFh or two ends decided differently give STRADDLE; two missing ends under ABORT give MISS; a
grant not given is DENIED. Nothing changes but the master's marker, which is cleared. -/
def Obligations.ClaimsAnsweredAtArrival : Prop :=
  ∀ (s : State) (m : Master) (a : Address) (dir : Direction) (cwid : BitVec 2) (x : DataWord),
    s.inReset = false → s.claim m = none → PlacesLaw s →
    let answered := fun (r : Reason) => Host.Outcome.next (φ := Fault) (ρ := Refusal)
      { s.quiet with answers := [{ master := m, reason := r, data := 0#32 }], markers := s.markers.set m false }
    let last := a + BitVec.ofNat 24 ((widthOfCwid cwid).bytes - 1)
    (softResetting s = true → exec (.claimArrival m a dir cwid x) s = answered .reset) ∧
    (softResetting s = false → 0xFFFFFF < a.toNat + (widthOfCwid cwid).bytes - 1 →
      exec (.claimArrival m a dir cwid x) s = answered .straddle) ∧
    (softResetting s = false → a.toNat + (widthOfCwid cwid).bytes - 1 ≤ 0xFFFFFF → lookup s a ≠ lookup s last →
      exec (.claimArrival m a dir cwid x) s = answered .straddle) ∧
    (softResetting s = false → a.toNat + (widthOfCwid cwid).bytes - 1 ≤ 0xFFFFFF → lookup s a = none →
      lookup s last = none → s.missPolicy = .abort → exec (.claimArrival m a dir cwid x) s = answered .miss) ∧
    (∀ n, softResetting s = false → a.toNat + (widthOfCwid cwid).bytes - 1 ≤ 0xFFFFFF → lookup s a = some n →
      lookup s last = some n → (s.slot n).permissions.getLsbD (2 * m.val + if dir = .write then 1 else 0) = false →
      exec (.claimArrival m a dir cwid x) s = answered .denied)

/-- R19, R20: a lookup misses exactly when no LIVE or MARKED window contains the address, and under the law of equal
precedence a window wins exactly when it is a candidate above every other candidate. -/
def Obligations.LookupFindsTheHighestCandidate : Prop :=
  ∀ (s : State) (a : Address),
    let candidate := fun n => ((s.slot n).state = .live ∨ (s.slot n).state = .marked) ∧
      (s.slot n).base.toNat ≤ a.toNat ∧ a.toNat ≤ (s.slot n).base.toNat + 2 ^ (s.slot n).size - 1
    (lookup s a = none ↔ ∀ n, ¬ candidate n) ∧
    (EqualPrecedenceLaw s → ∀ n, lookup s a = some n ↔
      candidate n ∧ ∀ m, m ≠ n → candidate m → (s.slot m).precedence < (s.slot n).precedence)

/-- R27, R32, R36, R96: a claim that both ends of a window decide, with its grant given and caught by the watch
setting, binds to the window and enters the intercept list with its timer loaded, and INTERCEPT is raised. -/
def Obligations.WatchedClaimsEnterTheInterceptList : Prop :=
  ∀ (s : State) (m : Master) (a : Address) (dir : Direction) (cwid : BitVec 2) (x : DataWord) (n : SlotId),
    s.inReset = false → s.claim m = none → softResetting s = false →
    a.toNat + (widthOfCwid cwid).bytes - 1 ≤ 0xFFFFFF → lookup s a = some n →
    lookup s (a + BitVec.ofNat 24 ((widthOfCwid cwid).bytes - 1)) = some n →
    (s.slot n).permissions.getLsbD (2 * m.val + if dir = .write then 1 else 0) = true →
    (s.slot n).watch = .all ∨ ((s.slot n).watch = .writes ∧ dir = .write) →
    exec (.claimArrival m a dir cwid x) s = .next { s.quiet with
      markers := s.markers.set m false
      slots := s.slots.set n { s.slot n with bound := (s.slot n).bound + 1 }
      claims := s.claims.set m (some
        { access := { address := a, direction := dir, width := widthOfCwid cwid
                      writeData := if dir = .write then some (laneBytes (widthOfCwid cwid) x) else none
                      binding := .slot n (s.slot n).generation, device := (s.slot n).device
                      waits := (s.slot n).waits, forwarded := (s.slot n).forward a }
          phase := .intercept, timer := Timer.load s.interceptLimit, verdictData := none })
      interceptList := s.interceptList ++ [m]
      flags := { s.flags with intercept := true } }

/-- R30, R32, R33: a claim bound to a window that does not catch it, and a claim bound to the fallback, make their
residency step in the arrival event with the record and the snapshot that R32 and R33 give. -/
def Obligations.BoundClaimsMakeTheirResidencyStep : Prop :=
  ∀ (s : State) (m : Master) (a : Address) (dir : Direction) (cwid : BitVec 2) (x : DataWord),
    s.inReset = false → s.claim m = none → softResetting s = false →
    a.toNat + (widthOfCwid cwid).bytes - 1 ≤ 0xFFFFFF →
    let last := a + BitVec.ofNat 24 ((widthOfCwid cwid).bytes - 1)
    let access := fun (b : Binding) (d : Device) (w : Fin 16) (f : Address) =>
      ({ address := a, direction := dir, width := widthOfCwid cwid
         writeData := if dir = .write then some (laneBytes (widthOfCwid cwid) x) else none
         binding := b, device := d, waits := w, forwarded := f } : Access)
    (∀ n, lookup s a = some n → lookup s last = some n →
      (s.slot n).permissions.getLsbD (2 * m.val + if dir = .write then 1 else 0) = true →
      (s.slot n).watch = .off ∨ ((s.slot n).watch = .writes ∧ dir = .read) →
      exec (.claimArrival m a dir cwid x) s = .next (residencyStep m
        (access (.slot n (s.slot n).generation) (s.slot n).device (s.slot n).waits
          (((s.slot n).relocation.map fun r => r + (a - (s.slot n).base)).getD a))
        { s.quiet with markers := s.markers.set m false
                       slots := s.slots.set n { s.slot n with bound := (s.slot n).bound + 1 } })) ∧
    (lookup s a = none → lookup s last = none → s.missPolicy = .fallback →
      exec (.claimArrival m a dir cwid x) s = .next (residencyStep m
        (access .fallback s.fallbackDevice s.fallbackWaits a)
        { s.quiet with markers := s.markers.set m false }))

/-- R37, R81, R82: the residency step by the residency of the device, for a master that stands in no list. -/
def Obligations.ResidencyStepFollowsTheDevice : Prop :=
  ∀ (s : State) (m : Master) (a : Access),
    m ∉ s.interceptList → m ∉ s.holdList → m ∉ s.readyList → s.cycle.map DeviceCycle.master ≠ some m →
    let r := s.device a.device
    let held := fun (r' : DeviceRecord) =>
      { s with
        claims := s.claims.set m (some
          { access := a, phase := .held, timer := Timer.load s.holdLimit, verdictData := none })
        holdList := s.holdList ++ [m]
        devices := s.devices.set a.device { r' with heldCount := r.heldCount + 1 } }
    let answered := fun (reason : Reason) (t : State) =>
      t = { s with claims := s.claims.set m none
                   answers := s.answers ++ [{ master := m, reason := reason, data := 0#32 }]
                   slots := t.slots, devices := t.devices } ∧
      (∀ n, t.slot n = slotAfterAnswer s a.binding reason n) ∧
      (∀ d, t.device d = { s.device d with
        refCount := (s.device d).refCount - if freesSlotOf s a.binding d then 1 else 0 })
    (r.residency = .on → residencyStep m a s =
      { s with claims := s.claims.set m (some { access := a, phase := .ready, timer := none, verdictData := none })
               readyList := s.readyList ++ [m] }) ∧
    (r.residency = .waking ∨ r.residency = .parking → residencyStep m a s = held r) ∧
    (r.residency = .off → r.autoWake = true → residencyStep m a s = held
      { r with residency := .waking, pen := true, wakeTimer := Timer.load r.wakeTime, idleTimer := none,
               faultCause := .none }) ∧
    (r.residency = .off → r.autoWake = false → answered .asleep (residencyStep m a s)) ∧
    (r.residency = .fault → answered .deviceFault (residencyStep m a s))

/-- R40, R41, R42: the grant takes the oldest ready claim, makes it ACTIVE, and drives SEL, DA, DRW and DD from its
record and snapshot. The new cycle has the next number (assumption 18). -/
def Obligations.GrantTakesTheOldestReadyClaim : Prop :=
  ∀ (s : State) (m : Master) (rest : List Master) (c : Claim), s.inReset = false → s.cycle = none →
    s.readyList = m :: rest → s.claim m = some c →
    exec .grant s = .next { s.quiet with
      readyList := rest
      cyclesBegun := s.cyclesBegun + 1
      cycle := some { number := s.cyclesBegun, master := m, sel := c.access.device, da := c.access.forwarded, drw := c.access.direction
                      dd := c.access.writeData, waits := c.access.waits }
      claims := s.claims.set m (some { c with phase := .active, timer := none }) }

/-- R42, R43: the response to the cycle in progress (assumption 18), with its device not PARKING, answers DONE with
the bytes of the width in the low lanes for a READ and 00h elsewhere, frees the bus, reloads the idle timer of an ON
device, sets the touched flag and lowers the bound count. -/
def Obligations.CompletionAnswersDone : Prop :=
  ∀ (s : State) (dd : DataWord) (cy : DeviceCycle) (c : Claim), s.inReset = false → PlacesLaw s →
    s.cycle = some cy → s.claim cy.master = some c → (s.device c.access.device).residency ≠ .parking →
    ∃ (t : State) (data : DataWord), exec (.completion { cycle := cy.number, dd := dd }) s = .next t ∧
      t = { s.quiet with answers := [{ master := cy.master, reason := .done, data := data }]
                         claims := s.claims.set cy.master none, cycle := none, slots := t.slots
                         devices := t.devices } ∧
      (∀ i, i < 4 → data.extractLsb' (8 * i) 8 =
        if c.access.direction = .read ∧ i < c.access.width.bytes then dd.extractLsb' (8 * i) 8 else 0#8) ∧
      (∀ n, t.slot n = slotAfterAnswer s c.access.binding .done n) ∧
      (∀ d, t.device d = { s.device d with
        refCount := (s.device d).refCount - if freesSlotOf s c.access.binding d then 1 else 0
        idleTimer := if d = c.access.device ∧ (s.device d).residency = .on then Timer.load (s.device d).idleLimit
                     else (s.device d).idleTimer })

/-- R43, R53, R69: the response to the cycle in progress (assumption 18) of a PARKING device answers DONE; while other
claims for the device are ready the park goes on; otherwise the device goes to OFF, or with held claims through OFF
into a new wake with PEN pulsed, and the held claims stay held. -/
def Obligations.LastCompletionEndsThePark : Prop :=
  ∀ (s : State) (dd : DataWord) (cy : DeviceCycle) (c : Claim), s.inReset = false → PlacesLaw s →
    s.cycle = some cy → s.claim cy.master = some c → (s.device c.access.device).residency = .parking →
    let d := c.access.device
    ∃ (t : State) (data : DataWord), exec (.completion { cycle := cy.number, dd := dd }) s = .next t ∧
      t = { s.quiet with answers := [{ master := cy.master, reason := .done, data := data }]
                         claims := s.claims.set cy.master none, cycle := none, slots := t.slots
                         devices := t.devices, penPulses := t.penPulses } ∧
      data = answerData c.access.direction c.access.width dd ∧
      (∀ n, t.slot n = slotAfterAnswer s c.access.binding .done n) ∧
      (∀ e, e ≠ d → t.device e = { s.device e with
        refCount := (s.device e).refCount - if freesSlotOf s c.access.binding e then 1 else 0 }) ∧
      (let r := { s.device d with refCount := (s.device d).refCount - if freesSlotOf s c.access.binding d then 1 else 0 }
       let more := s.readyList.any (boundTo s d)
       (more = true → t.device d = r ∧ t.penPulses = []) ∧
       (more = false → r.heldCount = 0 → t.penPulses = [] ∧
         t.device d = { r with residency := .off, pen := false, wakeTimer := none, idleTimer := none }) ∧
       (more = false → r.heldCount ≠ 0 → t.penPulses = [d] ∧
         t.device d = { r with residency := .waking, pen := true, wakeTimer := Timer.load r.wakeTime, idleTimer := none,
                               faultCause := .none }))

/-! ## Timers and power good -/

/-- R87: the expiry of a hold timer answers HOLD_TIMEOUT, lowers the held count and raises TIMEOUT; the device is
otherwise untouched. -/
def Obligations.HoldExpiryAnswersHoldTimeout : Prop :=
  ∀ (s : State) (m : Master) (c : Claim), s.inReset = false → PlacesLaw s → s.claim m = some c → c.phase = .held →
    timerDue c.timer = true →
    ∃ t, exec (.holdTimerExpiry m) s = .next t ∧
      t = { s.quiet with answers := [{ master := m, reason := .holdTimeout, data := 0#32 }]
                         claims := s.claims.set m none
                         holdList := s.holdList.filter fun k => decide (k ≠ m)
                         slots := t.slots, devices := t.devices, flags := { s.flags with timeout := true } } ∧
      (∀ n, t.slot n = slotAfterAnswer s c.access.binding .holdTimeout n) ∧
      (∀ d, t.device d = { s.device d with
        refCount := (s.device d).refCount - (if freesSlotOf s c.access.binding d then 1 else 0)
        heldCount := (s.device d).heldCount - if d = c.access.device then 1 else 0 })

/-- R105, R106: the expiry of an intercept timer answers INTERCEPT_TIMEOUT, sets the master's marker and raises
TIMEOUT; the device is not consulted. -/
def Obligations.InterceptExpirySetsTheMarker : Prop :=
  ∀ (s : State) (m : Master) (c : Claim), s.inReset = false → PlacesLaw s → s.claim m = some c →
    c.phase = .intercept → timerDue c.timer = true →
    ∃ t, exec (.interceptTimerExpiry m) s = .next t ∧
      t = { s.quiet with answers := [{ master := m, reason := .interceptTimeout, data := 0#32 }]
                         claims := s.claims.set m none
                         interceptList := s.interceptList.filter fun k => decide (k ≠ m)
                         markers := s.markers.set m true
                         slots := t.slots, devices := t.devices, flags := { s.flags with timeout := true } } ∧
      (∀ n, t.slot n = slotAfterAnswer s c.access.binding .interceptTimeout n) ∧
      (∀ d, t.device d = { s.device d with
        refCount := (s.device d).refCount - if freesSlotOf s c.access.binding d then 1 else 0 })

/-- R57, R58: a tick is delivered to every timer in the controller and changes nothing else, and a timer loaded with
N ticks is due after the N-th tick and not before, with N - k ticks left after the k-th. -/
def Obligations.TickReachesEveryTimer : Prop :=
  (∀ s : State, s.inReset = false →
    let tick := fun (t : Timer) => if 1 < t.left then { t with left := t.left - 1 } else { t with due := true }
    ∃ t, exec .tick s = .next t ∧
      t = { s.quiet with claims := t.claims, devices := t.devices, port := t.port, divider := 0 } ∧
      (∀ m, t.claim m = (s.claim m).map fun c => { c with timer := c.timer.map tick }) ∧
      (∀ d, t.device d = { s.device d with
        wakeTimer := (s.device d).wakeTimer.map tick, idleTimer := (s.device d).idleTimer.map tick }) ∧
      t.port = { s.port with condition :=
        match s.port.condition with
        | .executing op x => .executing op (tick x)
        | other => other }) ∧
  (∀ n : Nat, 0 < n → Timer.load n = some { left := n, due := false } ∧
    (Timer.tick^[n] { left := n, due := false }).due = true ∧
    ∀ k, k < n → Timer.tick^[k] { left := n, due := false } = { left := n - k, due := false })

/-- R63, R64, R84, R86: the expiry of a wake timer. In conformity the device is ON with its idle timer loaded and its
held claims stand at the tail of the ready list in hold-list order. Out of conformity it is in FAULT with
NO_POWER_GOOD, its held claims are answered DEVICE_FAULT in order, and FAULT is raised. -/
def Obligations.WakeExpiryDecidesOnOrFault : Prop :=
  ∀ (s : State) (d : Device) (level : Bool), s.inReset = false → PlacesLaw s → ReferenceLaw s →
    (s.device d).residency = .waking → timerDue (s.device d).wakeTimer = true →
    let r := s.device d
    let good := r.sense = .ignore ∨ (r.sense = .high ∧ level = true) ∨ (r.sense = .low ∧ level = false)
    let ms := s.holdList.filter (boundTo s d)
    ∃ t, exec (.wakeTimerExpiry d level) s = .next t ∧
      t.holdList = s.holdList.filter (fun m => !boundTo s d m) ∧
      (good →
        t = { s.quiet with pgd := s.pgd.set d level, claims := t.claims, holdList := t.holdList
                           readyList := s.readyList ++ ms
                           devices := s.devices.set d { r with
                             residency := .on, wakeTimer := none, idleTimer := Timer.load r.idleLimit, heldCount := 0 } } ∧
        (∀ m, t.claim m = if m ∈ ms then (s.claim m).map fun c => { c with phase := .ready, timer := none }
                          else s.claim m)) ∧
      (¬ good →
        t = { s.quiet with pgd := s.pgd.set d level, claims := t.claims, holdList := t.holdList
                           answers := answersOf ms .deviceFault, slots := t.slots, devices := t.devices
                           flags := { s.flags with fault := true } } ∧
        (∀ m, t.claim m = if m ∈ ms then none else s.claim m) ∧
        (∀ n, t.slot n = slotAfterAnswers s ms n) ∧
        (∀ e, e ≠ d → t.device e = { s.device e with refCount := references t e }) ∧
        t.device d = { r with
          residency := .fault, faultCause := .noPowerGood, pen := false, wakeTimer := none, idleTimer := none
          heldCount := 0, refCount := references t d })

/-- R66, R67: the expiry of an ON device's idle timer reloads the timer when a ready or active claim is bound to the
device, and otherwise sends the device to OFF. -/
def Obligations.IdleExpiryParksAnUnusedDevice : Prop :=
  ∀ (s : State) (d : Device), s.inReset = false → (s.device d).residency = .on →
    timerDue (s.device d).idleTimer = true →
    let work := ∃ m c, (m ∈ s.readyList ∨ s.cycle.map DeviceCycle.master = some m) ∧ s.claim m = some c ∧
      c.access.device = d
    (work → exec (.idleTimerExpiry d) s = .next { s.quiet with
      devices := s.devices.set d { s.device d with idleTimer := Timer.load (s.device d).idleLimit } }) ∧
    (¬ work → exec (.idleTimerExpiry d) s = .next { s.quiet with
      devices := s.devices.set d { s.device d with
        residency := .off, pen := false, wakeTimer := none, idleTimer := none } })

/-- R45, R46, R54, R71: a departure from conformity of an ON or PARKING device sends it to FAULT with POWER_LOST,
answers DEVICE_FAULT to its active claim, then its ready claims, then its held claims, and raises FAULT; claims for
other devices keep their places. That conformity is judged on the level of PGD last sampled, and that the field then
holds the level the sense refuses, is the model's choice (assumption 6). -/
def Obligations.DepartureFaultsTheDevice : Prop :=
  ∀ (s : State) (d : Device), s.inReset = false → PlacesLaw s → ReferenceLaw s →
    (s.device d).residency = .on ∨ (s.device d).residency = .parking → (s.device d).sense ≠ .ignore →
    inConformity s d = true →
    let ms := activeMaster s ++ s.readyList ++ s.holdList
    let mine := ms.filter (boundTo s d)
    ∃ t, exec (.departureFromConformity d) s = .next t ∧
      t = { s.quiet with
        answers := answersOf mine .deviceFault, claims := t.claims
        readyList := s.readyList.filter (fun m => !boundTo s d m)
        holdList := s.holdList.filter (fun m => !boundTo s d m)
        cycle := s.cycle.filter (fun x => !boundTo s d x.master)
        pgd := s.pgd.set d (decide ((s.device d).sense = .low))
        slots := t.slots, devices := t.devices, flags := { s.flags with fault := true } } ∧
      (∀ m, t.claim m = if m ∈ mine then none else s.claim m) ∧
      (∀ n, t.slot n = slotAfterAnswers s mine n) ∧
      (∀ e, e ≠ d → t.device e = { s.device e with refCount := references t e }) ∧
      t.device d = { s.device d with
        residency := .fault, faultCause := .powerLost, pen := false, wakeTimer := none, idleTimer := none
        heldCount := 0, refCount := references t d }

/-! ## The management port -/

/-- R150, R151: a command byte taken clears the error fields, discards an unread reply, and abandons a command being
collected, which sets ABANDONED and raises PORT. A code with parameters then opens a record; a code that names no
command replies UNKNOWN_COMMAND, also as the command UNKNOWN_COMMAND. -/
def Obligations.CommandByteOpensARecord : Prop :=
  ∀ (s : State) (b : Byte), s.inReset = false → s.port.busy = false →
    let taken := fun (x : PortCondition) => Host.Outcome.next (φ := Fault) (ρ := Refusal)
      { s.quiet with
        port := { condition := x, orphan := false, collision := false, abandoned := s.port.paramWanted }
        flags := { s.flags with port := s.flags.port || s.port.paramWanted } }
    takeCommandByte s.quiet = { s.quiet with
      port := { condition := .idle, orphan := false, collision := false, abandoned := s.port.paramWanted }
      flags := { s.flags with port := s.flags.port || s.port.paramWanted } } ∧
    (∀ code, CommandCode.ofByte b = some code → 0 < code.paramCount →
      exec (.commandByte b) s = taken (.collecting code [])) ∧
    (CommandCode.ofByte b = none → exec (.commandByte b) s = taken (.replying [0x01#8]) ∧
      exec (.unknownCommand b) s = taken (.replying [0x01#8]))

/-- R156: a command byte written while the port is EXECUTING is discarded, sets COLLISION and raises PORT; nothing
else changes, so the port stays EXECUTING, and each parameter byte that follows is a data write with no command
collecting, which sets ORPHAN and raises PORT. -/
def Obligations.CommandByteCollidesWhileExecuting : Prop :=
  ∀ (s : State) (b : Byte), s.inReset = false → s.port.busy = true →
    let raised := { s.flags with port := true }
    exec (.commandByte b) s = .next { s.quiet with port := { s.port with collision := true }, flags := raised } ∧
    exec (.unknownCommand b) s = .next { s.quiet with port := { s.port with collision := true }, flags := raised } ∧
    exec (.parameterByte b) s = .next { s.quiet with port := { s.port with orphan := true }, flags := raised }

/-- R155: a data write with no command collecting is discarded, and a data read with the reply buffer empty returns
00h; each sets ORPHAN and raises PORT, and nothing else changes. -/
def Obligations.DataAccessOutOfPlaceIsOrphan : Prop :=
  ∀ (s : State) (b : Byte), s.inReset = false →
    let t := { s.quiet with port := { s.port with orphan := true }, flags := { s.flags with port := true } }
    ((∀ code params, s.port.condition ≠ .collecting code params) → exec (.parameterByte b) s = .next t) ∧
    ((∀ x rest, s.port.condition ≠ .replying (x :: rest)) →
      exec .replyByteRead s = .next { t with md := some 0x00#8 })

/-- R152: a parameter byte that is not the last is added to the record. The last one hands the record to the decoder
in its event, whatever came between the bytes; the third clause says what the decoder does with a record: what the
command sent whole does with its bytes (the command as one event is assumption 5). -/
def Obligations.ParameterByteIsCollected : Prop :=
  (∀ (s : State) (b : Byte) (code : CommandCode) (params : List Byte), s.inReset = false →
    s.port.condition = .collecting code params →
    (params.length + 1 < code.paramCount → exec (.parameterByte b) s = .next { s.quiet with
      port := { s.port with condition := .collecting code (params ++ [b]) } }) ∧
    (params.length + 1 = code.paramCount → exec (.parameterByte b) s = .next
      (runRecord code (params ++ [b]) { s.quiet with port := { s.port with condition := .idle } }))) ∧
  (∀ (s : State) (c : Instr) (code : CommandCode) (params : List Byte), s.inReset = false → s.port.busy = false →
    commandBytes c = some (code, params) → exec c s = .next (runRecord code params (takeCommandByte s.quiet)))

/-- R154: a data read while REPLYING returns the oldest unread byte and removes it; the port becomes IDLE after the
last byte. -/
def Obligations.ReplyBytesAreReadInOrder : Prop :=
  ∀ (s : State) (b : Byte) (rest : List Byte), s.inReset = false → s.port.condition = .replying (b :: rest) →
    exec .replyByteRead s = .next { s.quiet with
      md := some b
      port := { s.port with condition := if rest = [] then .idle else .replying rest } }

/-- R150, R152, R153, R155, R156: a management command sent whole is its command byte followed by its parameter
bytes. That the model has the command whole as one event is its own choice (assumption 5). -/
def Obligations.WholeCommandIsItsBytes : Prop :=
  ∀ (s : State) (c : Instr) (code : CommandCode) (params : List Byte), commandBytes c = some (code, params) →
    CommandCode.ofByte code.toByte = some code ∧ params.length = code.paramCount ∧
    runAll (.commandByte code.toByte :: params.map .parameterByte) s = exec c s

/-- R149, R143: the fields of the status byte, bit by bit, while PORN is high, and the level of MIRQ. What a read of
the status byte shows while PORN is low is not defined (R129), and nothing is said of it. -/
def Obligations.StatusByteAndMirqFollowTheState : Prop :=
  ∀ s : State,
    (s.inReset = false → ∀ read : Nat,
      ((s.statusByte read).getLsbD 0 = true ↔ ∃ c p, s.port.condition = .collecting c p) ∧
      ((s.statusByte read).getLsbD 1 = true ↔ ∃ x, s.port.condition = .replying x) ∧
      ((s.statusByte read).getLsbD 2 = true ↔ ∃ op t, s.port.condition = .executing op t) ∧
      ((s.statusByte read).getLsbD 3 = true ↔ s.flags ≠ .clear) ∧
      (s.statusByte read).getLsbD 4 = s.port.orphan ∧ (s.statusByte read).getLsbD 5 = s.port.collision ∧
      (s.statusByte read).getLsbD 6 = s.port.abandoned ∧ (s.statusByte read).getLsbD 7 = false) ∧
    (s.mirq = true ↔ s.gate = true ∧ (s.flags.intercept = true ∧ s.mask.intercept = true ∨
      s.flags.fault = true ∧ s.mask.fault = true ∨ s.flags.timeout = true ∧ s.mask.timeout = true ∨
      s.flags.done = true ∧ s.mask.done = true ∨ s.flags.port = true ∧ s.mask.port = true))

/-! ## Device commands -/

/-- R161, R164: IDENTIFY replies its six bytes; READ DEVICE replies the eleven bytes of the record, or BAD_VALUE for a
number above 0Fh. Neither changes a record. -/
def Obligations.IdentifyAndReadDeviceReport : Prop :=
  ∀ (s : State) (b : Byte), s.inReset = false → s.port.busy = false →
    let s₀ := takeCommandByte s.quiet
    exec .identify s = .next (reply
      [0x00#8, 0x6A#8, 0x01#8, 64#8, 16#8, 0#2 ++ s.straps.bpg ++ s.straps.bwt ++ s.straps.bsz] s₀) ∧
    (∀ d : Device, b.toNat = d.val →
      let r := s.device d
      exec (.readDevice b) s = .next (reply
        [0x00#8, residencyByte r.residency, BitVec.ofNat 8 r.wakeTime, BitVec.ofNat 8 r.idleLimit,
         BitVec.ofNat 8 (r.idleLimit / 256), BitVec.ofNat 8 (timerLeft r.idleTimer),
         BitVec.ofNat 8 (timerLeft r.idleTimer / 256),
         (if r.autoWake then 0x01#8 else 0x00#8) +
           (if r.sense = .high then 0x02#8 else if r.sense = .low then 0x04#8 else 0x00#8),
         BitVec.ofNat 8 r.refCount, BitVec.ofNat 8 r.heldCount, faultCauseByte r.faultCause] s₀)) ∧
    (16 ≤ b.toNat → exec (.readDevice b) s = .next (reply [0x02#8] s₀))

/-- R60, R162: DEFINE DEVICE writes the parameters of an ABSENT or OFF device, which is then OFF; a device in any
other residency is refused WRONG_STATE, and a parameter out of range BAD_VALUE. -/
def Obligations.DefineDeviceWritesTheParameters : Prop :=
  ∀ (s : State) (b w : Byte) (l : BitVec 16) (o : Byte), s.inReset = false → s.port.busy = false →
    let s₀ := takeCommandByte s.quiet
    let inRange := b.toNat < 16 ∧ 1 ≤ w.toNat ∧ w.toNat ≤ 250 ∧ l.toNat ≤ 60000 ∧ o.toNat < 6
    (inRange → ∀ d : Device, b.toNat = d.val →
      ((s.device d).residency = .absent ∨ (s.device d).residency = .off →
        exec (.defineDevice b w l o) s = .next (reply [0x00#8] { s₀ with
          devices := s.devices.set d { s.device d with
            residency := .off, faultCause := .none, wakeTime := w.toNat, idleLimit := l.toNat
            autoWake := decide (o.toNat % 2 = 1)
            sense := if o.toNat < 2 then .ignore else if o.toNat < 4 then .high else .low } })) ∧
      ((s.device d).residency ≠ .absent → (s.device d).residency ≠ .off →
        exec (.defineDevice b w l o) s = .next (reply [0x09#8] s₀))) ∧
    (¬ inRange → exec (.defineDevice b w l o) s = .next (reply [0x02#8] s₀))

/-- R61, R72, R163: FORGET DEVICE makes an OFF or FAULT device with no reference ABSENT, refuses IN_USE with one, and
WRONG_STATE in the other residencies; CLEAR FAULT makes a device in FAULT OFF and refuses WRONG_STATE otherwise. -/
def Obligations.ForgetAndClearFaultFollowTheResidency : Prop :=
  ∀ (s : State) (b : Byte), s.inReset = false → s.port.busy = false →
    let s₀ := takeCommandByte s.quiet
    (∀ d : Device, b.toNat = d.val →
      let r := s.device d
      (r.residency = .off ∨ r.residency = .fault → r.refCount = 0 → exec (.forgetDevice b) s = .next (reply [0x00#8]
        { s₀ with devices := s.devices.set d { r with residency := .absent, faultCause := .none } })) ∧
      (r.residency = .off ∨ r.residency = .fault → 0 < r.refCount →
        exec (.forgetDevice b) s = .next (reply [0x06#8] s₀)) ∧
      (r.residency ≠ .off → r.residency ≠ .fault → exec (.forgetDevice b) s = .next (reply [0x09#8] s₀)) ∧
      (r.residency = .fault → exec (.clearFault b) s = .next (reply [0x00#8]
        { s₀ with devices := s.devices.set d { r with residency := .off, faultCause := .none } })) ∧
      (r.residency ≠ .fault → exec (.clearFault b) s = .next (reply [0x09#8] s₀))) ∧
    (16 ≤ b.toNat → exec (.forgetDevice b) s = .next (reply [0x02#8] s₀) ∧
      exec (.clearFault b) s = .next (reply [0x02#8] s₀))

/-- R62, R65, R85: WAKE DEVICE by residency. An OFF device starts its wake; a WAKING or ON device is left; a PARKING
device is ON again and its held claims stand at the tail of the ready list; FAULT and ABSENT refuse WRONG_STATE. -/
def Obligations.WakeDeviceFollowsTheResidency : Prop :=
  ∀ (s : State) (b : Byte), s.inReset = false → s.port.busy = false →
    let s₀ := takeCommandByte s.quiet
    (∀ d : Device, b.toNat = d.val →
      let r := s.device d
      (r.residency = .off → exec (.wakeDevice b) s = .next (reply [0x00#8] { s₀ with
        devices := s.devices.set d { r with
          residency := .waking, pen := true, wakeTimer := Timer.load r.wakeTime, idleTimer := none
          faultCause := .none } })) ∧
      (r.residency = .waking ∨ r.residency = .on → exec (.wakeDevice b) s = .next (reply [0x00#8] s₀)) ∧
      (r.residency = .parking → ∃ t, exec (.wakeDevice b) s = .next (reply [0x00#8] t) ∧
        let ms := s.holdList.filter (boundTo s d)
        t = { s₀ with
          claims := t.claims, holdList := s.holdList.filter (fun m => !boundTo s d m), readyList := s.readyList ++ ms
          devices := s.devices.set d { r with
            residency := .on, wakeTimer := none, idleTimer := Timer.load r.idleLimit, heldCount := 0 } } ∧
        (∀ m, t.claim m = if m ∈ ms then (s.claim m).map fun c => { c with phase := .ready, timer := none }
                          else s.claim m)) ∧
      (r.residency = .fault ∨ r.residency = .absent → exec (.wakeDevice b) s = .next (reply [0x09#8] s₀))) ∧
    (16 ≤ b.toNat → exec (.wakeDevice b) s = .next (reply [0x02#8] s₀))

/-- R68: PARK DEVICE by residency and claims. -/
def Obligations.ParkDeviceFollowsTheResidency : Prop :=
  ∀ (s : State) (b : Byte), s.inReset = false → s.port.busy = false →
    let s₀ := takeCommandByte s.quiet
    (∀ d : Device, b.toNat = d.val →
      let r := s.device d
      let work := ∃ m c, (m ∈ s.readyList ∨ s.cycle.map DeviceCycle.master = some m) ∧ s.claim m = some c ∧
        c.access.device = d
      let off := Host.Outcome.next (φ := Fault) (ρ := Refusal) (reply [0x00#8] { s₀ with
        devices := s.devices.set d { r with residency := .off, pen := false, wakeTimer := none, idleTimer := none } })
      (r.residency = .on → ¬ work → exec (.parkDevice b) s = off) ∧
      (r.residency = .on → work → exec (.parkDevice b) s = .next (reply [0x00#8] { s₀ with
        devices := s.devices.set d { r with residency := .parking, idleTimer := none } })) ∧
      (r.residency = .waking → r.heldCount = 0 → exec (.parkDevice b) s = off) ∧
      (r.residency = .waking → 0 < r.heldCount → exec (.parkDevice b) s = .next (reply [0x09#8] s₀)) ∧
      (r.residency = .parking ∨ r.residency = .off → exec (.parkDevice b) s = .next (reply [0x00#8] s₀)) ∧
      (r.residency = .fault ∨ r.residency = .absent → exec (.parkDevice b) s = .next (reply [0x09#8] s₀))) ∧
    (16 ≤ b.toNat → exec (.parkDevice b) s = .next (reply [0x02#8] s₀))

/-! ## Window commands -/

/-- R9, R10, R114, R115, R165: an open whose checks pass fills the FREE slot, LIVE or STAGED, advances the generation,
raises the device's reference count and replies OK with the new generation. -/
def Obligations.OpenFillsAFreeSlot : Prop :=
  ∀ (s : State) (b : Byte) (base : Address) (k p dv w g o : Byte) (reloc : Option Address) (n : SlotId) (pr : Fin 8)
    (d : Device) (wt : Fin 16),
    s.inReset = false → s.port.busy = false → b.toNat = n.val → 8 ≤ k.toNat → k.toNat ≤ 20 → p.toNat = pr.val →
    dv.toNat = d.val → w.toNat = wt.val → o.toNat < 8 → o.toNat % 4 ≠ 3 → base.toNat % 2 ^ k.toNat = 0 →
    (∀ r ∈ reloc, r.toNat % 2 ^ k.toNat = 0) → (s.slot n).state = .free → (s.device d).residency ≠ .absent →
    let s₀ := takeCommandByte s.quiet
    let window : Slot :=
      { state := if 4 ≤ o.toNat then .staged else .live, origin := .command, base := base, size := k.toNat
        precedence := pr, device := d, waits := wt, permissions := g
        watch := if o.toNat % 4 = 0 then .off else if o.toNat % 4 = 1 then .writes else .all
        relocation := reloc, generation := (s.slot n).generation + 1, touched := (s.slot n).touched
        bound := (s.slot n).bound }
    (4 ≤ o.toNat ∨ ∀ m, (s.slot m).inView = true → window.conflicts (s.slot m) = false) →
    exec (openCommand b base k p dv w g o reloc) s = .next (reply
      [0x00#8, BitVec.ofNat 8 ((s.slot n).generation + 1).val] { s₀ with
        slots := s.slots.set n window
        devices := s.devices.set d { s.device d with refCount := (s.device d).refCount + 1 } })

/-- R165: the refusals of an open, in their order: BAD_VALUE, SLOT_IN_USE, NO_DEVICE, OVERLAP. Each changes no record
and replies the slot's generation, or FFh for a slot number out of range. -/
def Obligations.OpenIsRefusedInOrder : Prop :=
  ∀ (s : State) (b : Byte) (base : Address) (k p dv w g o : Byte) (reloc : Option Address),
    s.inReset = false → s.port.busy = false →
    let s₀ := takeCommandByte s.quiet
    let inRange := b.toNat < 64 ∧ (8 ≤ k.toNat ∧ k.toNat ≤ 20) ∧ p.toNat < 8 ∧ dv.toNat < 16 ∧ w.toNat < 16 ∧
      (o.toNat < 8 ∧ o.toNat % 4 ≠ 3) ∧ base.toNat % 2 ^ k.toNat = 0 ∧ ∀ r ∈ reloc, r.toNat % 2 ^ k.toNat = 0
    let refused := fun (r g : Byte) => Host.Outcome.next (φ := Fault) (ρ := Refusal) (reply [r, g] s₀)
    (64 ≤ b.toNat → exec (openCommand b base k p dv w g o reloc) s = refused 0x02#8 0xFF#8) ∧
    (∀ n : SlotId, b.toNat = n.val →
      let gen := BitVec.ofNat 8 (s.slot n).generation.val
      (¬ inRange → exec (openCommand b base k p dv w g o reloc) s = refused 0x02#8 gen) ∧
      (inRange → (s.slot n).state ≠ .free →
        exec (openCommand b base k p dv w g o reloc) s = refused 0x03#8 gen) ∧
      (∀ d : Device, dv.toNat = d.val → inRange → (s.slot n).state = .free → (s.device d).residency = .absent →
        exec (openCommand b base k p dv w g o reloc) s = refused 0x05#8 gen) ∧
      (∀ (d : Device) (m : SlotId), dv.toNat = d.val → inRange → (s.slot n).state = .free →
        (s.device d).residency ≠ .absent → o.toNat < 4 → (s.slot m).inView = true →
        (s.slot m).precedence.val = p.toNat →
        base.toNat ≤ (s.slot m).base.toNat + 2 ^ (s.slot m).size - 1 →
        (s.slot m).base.toNat ≤ base.toNat + 2 ^ k.toNat - 1 →
        exec (openCommand b base k p dv w g o reloc) s = refused 0x07#8 gen))

/-- R113, R116, R117, R166: an amendment whose checks pass rewrites precedence, waits, permissions and watch and
advances the generation; the refusals come in the order BAD_VALUE, SLOT_FREE, STALE, WRONG_STATE, OVERLAP. -/
def Obligations.AmendRewritesFourFields : Prop :=
  ∀ (s : State) (b e p w g v : Byte), s.inReset = false → s.port.busy = false →
    let s₀ := takeCommandByte s.quiet
    let inRange := b.toNat < 64 ∧ p.toNat < 8 ∧ w.toNat < 16 ∧ v.toNat < 3
    let refused := fun (r g : Byte) => Host.Outcome.next (φ := Fault) (ρ := Refusal) (reply [r, g] s₀)
    (64 ≤ b.toNat → exec (.amendWindow b e p w g v) s = refused 0x02#8 0xFF#8) ∧
    (∀ n : SlotId, b.toNat = n.val →
      let slot := s.slot n
      let gen := BitVec.ofNat 8 slot.generation.val
      let fresh := e = 0xFF#8 ∨ e.toNat = slot.generation.val
      let clash := slot.state = .live ∧ p.toNat ≠ slot.precedence.val ∧
        ∃ m, m ≠ n ∧ (s.slot m).inView = true ∧ p.toNat = (s.slot m).precedence.val ∧ slot.shares (s.slot m) = true
      (¬ inRange → exec (.amendWindow b e p w g v) s = refused 0x02#8 gen) ∧
      (inRange → slot.state = .free → exec (.amendWindow b e p w g v) s = refused 0x04#8 gen) ∧
      (inRange → slot.state ≠ .free → ¬ fresh → exec (.amendWindow b e p w g v) s = refused 0x0A#8 gen) ∧
      (inRange → fresh → slot.state = .marked ∨ slot.state = .draining →
        exec (.amendWindow b e p w g v) s = refused 0x09#8 gen) ∧
      (inRange → fresh → clash → exec (.amendWindow b e p w g v) s = refused 0x07#8 gen) ∧
      (∀ (pr : Fin 8) (wt : Fin 16) (x : Watch), inRange → p.toNat = pr.val → w.toNat = wt.val →
        (v.toNat, x) ∈ [(0, Watch.off), (1, .writes), (2, .all)] → fresh →
        slot.state = .live ∨ slot.state = .staged → ¬ clash →
        exec (.amendWindow b e p w g v) s = .next (reply [0x00#8, BitVec.ofNat 8 (slot.generation + 1).val] { s₀ with
          slots := s.slots.set n { slot with precedence := pr, waits := wt, permissions := g, watch := x
                                             generation := slot.generation + 1 } })))

/-- R113, R118, R119, R167: a retirement makes a STAGED slot FREE, and a LIVE slot MARKED when staged, FREE with no
claim bound, DRAINING otherwise; a slot that becomes FREE gives up its device's reference. The refusals come in the
order BAD_VALUE, SLOT_FREE, STALE, WRONG_STATE. -/
def Obligations.RetireFollowsTheSlotState : Prop :=
  ∀ (s : State) (b e x : Byte), s.inReset = false → s.port.busy = false →
    let s₀ := takeCommandByte s.quiet
    let refused := fun (r : Byte) => Host.Outcome.next (φ := Fault) (ρ := Refusal) (reply [r] s₀)
    (64 ≤ b.toNat ∨ 2 ≤ x.toNat → exec (.retireWindow b e x) s = refused 0x02#8) ∧
    (∀ n : SlotId, b.toNat = n.val → x.toNat < 2 →
      let slot := s.slot n
      let fresh := e = 0xFF#8 ∨ e.toNat = slot.generation.val
      let moved := fun (st : SlotState) => { s₀ with slots := s.slots.set n { slot with state := st } }
      let freed := { moved .free with
        devices := s.devices.set slot.device
          { s.device slot.device with refCount := (s.device slot.device).refCount - 1 } }
      (slot.state = .free → exec (.retireWindow b e x) s = refused 0x04#8) ∧
      (slot.state ≠ .free → ¬ fresh → exec (.retireWindow b e x) s = refused 0x0A#8) ∧
      (slot.state = .marked ∨ slot.state = .draining → fresh → exec (.retireWindow b e x) s = refused 0x09#8) ∧
      (slot.state = .staged → fresh → exec (.retireWindow b e x) s = .next (reply [0x00#8] freed)) ∧
      (slot.state = .live → fresh → x.toNat = 1 →
        exec (.retireWindow b e x) s = .next (reply [0x00#8] (moved .marked))) ∧
      (slot.state = .live → fresh → x.toNat = 0 → slot.bound = 0 →
        exec (.retireWindow b e x) s = .next (reply [0x00#8] freed)) ∧
      (slot.state = .live → fresh → x.toNat = 0 → 0 < slot.bound →
        exec (.retireWindow b e x) s = .next (reply [0x00#8] (moved .draining))))

/-- R11, R168: READ WINDOW replies the nineteen bytes of the slot in whatever state it is, and with the clear option
then clears its touched flag; a parameter out of range gives BAD_VALUE and changes no flag. -/
def Obligations.ReadWindowReportsTheSlot : Prop :=
  ∀ (s : State) (b x : Byte), s.inReset = false → s.port.busy = false →
    let s₀ := takeCommandByte s.quiet
    (64 ≤ b.toNat ∨ 2 ≤ x.toNat → exec (.readWindow b x) s = .next (reply [0x02#8] s₀)) ∧
    (∀ n : SlotId, b.toNat = n.val → x.toNat < 2 →
      let w := s.slot n
      exec (.readWindow b x) s = .next (reply
        ([0x00#8, slotStateByte w.state, originByte w.origin, w.base.extractLsb' 0 8, w.base.extractLsb' 8 8,
          w.base.extractLsb' 16 8, BitVec.ofNat 8 w.size, BitVec.ofNat 8 w.precedence.val,
          BitVec.ofNat 8 w.device.val, BitVec.ofNat 8 w.waits.val, w.permissions, watchByte w.watch,
          if w.relocation = none then 0x00#8 else 0x01#8] ++ addressBytes (w.relocation.getD 0#24) ++
         [BitVec.ofNat 8 w.generation.val, if w.touched then 0x01#8 else 0x00#8, BitVec.ofNat 8 w.bound])
        { s₀ with slots := if x.toNat = 1 then s.slots.set n { w with touched := false } else s.slots }))

/-- R122, R124, R153, R169: a PUBLISH makes the port EXECUTING with a timer of 2 and changes no slot. At its completion
with no conflict each STAGED slot becomes LIVE and each MARKED slot FREE or DRAINING by its bound count, the reply is
OK, FFh, FFh, and DONE is raised. -/
def Obligations.PublishSwitchesTheView : Prop :=
  (∀ s : State, s.inReset = false → s.port.busy = false →
    let s₀ := takeCommandByte s.quiet
    exec .publish s = .next { s₀ with
      port := { s₀.port with condition := .executing .publish { left := 2, due := false } } }) ∧
  (∀ (s : State) (left : Nat), s.inReset = false → ReferenceLaw s →
    s.port.condition = .executing .publish { left := left, due := true } →
    (∀ n m, n ≠ m → (s.slot n).state = .staged → (s.slot m).state = .live ∨ (s.slot m).state = .staged →
      (s.slot n).conflicts (s.slot m) = false) →
    ∃ t, exec .publishCompletion s = .next t ∧
      t = { s.quiet with slots := t.slots, devices := t.devices
                         port := { s.port with condition := .replying [0x00#8, 0xFF#8, 0xFF#8] }
                         flags := { s.flags with done := true } } ∧
      (∀ n, t.slot n = { s.slot n with state :=
        if (s.slot n).state = .staged then .live
        else if (s.slot n).state = .marked then (if (s.slot n).bound = 0 then .free else .draining)
        else (s.slot n).state }) ∧
      (∀ d, t.device d = { s.device d with refCount := references t d }))

/-- R123, R169: a publish whose new view has a conflict changes no slot and no device, and replies CONFLICT with the
first pair found: the STAGED slots in increasing number, and for each the other slots of the new view in increasing
number. DONE is raised. -/
def Obligations.PublishReportsTheFirstConflict : Prop :=
  ∀ (s : State) (left : Nat) (n m : SlotId), s.inReset = false →
    s.port.condition = .executing .publish { left := left, due := true } →
    let newView := fun k => (s.slot k).state = .live ∨ (s.slot k).state = .staged
    (s.slot n).state = .staged → newView m → n ≠ m → (s.slot n).conflicts (s.slot m) = true →
    (∀ k j, k < n → k ≠ j → (s.slot k).state = .staged → newView j → (s.slot k).conflicts (s.slot j) = false) →
    (∀ j, j < m → n ≠ j → newView j → (s.slot n).conflicts (s.slot j) = false) →
    exec .publishCompletion s = .next { s.quiet with
      port := { s.port with condition := .replying [0x08#8, BitVec.ofNat 8 n.val, BitVec.ofNat 8 m.val] }
      flags := { s.flags with done := true } }

/-- R126, R169: DISCARD frees every STAGED slot, returns every MARKED slot to LIVE, leaves the matching view as it was,
and replies OK with the number of slots changed. -/
def Obligations.DiscardAbandonsThePendingChanges : Prop :=
  ∀ s : State, s.inReset = false → s.port.busy = false → ReferenceLaw s →
    let s₀ := takeCommandByte s.quiet
    ∃ t, exec .discard s = .next (reply [0x00#8, BitVec.ofNat 8
        (countSlots (fun w => decide (w.state = .staged)) s.slots + countSlots (fun w => decide (w.state = .marked)) s.slots)] t) ∧
      t = { s₀ with slots := t.slots, devices := t.devices } ∧
      (∀ n, t.slot n = { s.slot n with state :=
        if (s.slot n).state = .staged then .free else if (s.slot n).state = .marked then .live else (s.slot n).state }) ∧
      (∀ n, (t.slot n).inView = (s.slot n).inView) ∧
      (∀ d, t.device d = { s.device d with refCount := references t d })

/-- R170: PROBE replies what the lookup, permission and watch steps would decide, and changes no record. -/
def Obligations.ProbeReportsTheDecision : Prop :=
  ∀ (s : State) (bm bd bw : Byte) (a : Address), s.inReset = false → s.port.busy = false →
    let s₀ := takeCommandByte s.quiet
    (4 ≤ bm.toNat ∨ 2 ≤ bd.toNat ∨ (bw ≠ 1#8 ∧ bw ≠ 2#8 ∧ bw ≠ 4#8) →
      exec (.probe bm bd bw a) s = .next (reply [0x02#8] s₀)) ∧
    (∀ (m : Master), bm.toNat = m.val → bd.toNat < 2 → bw = 1#8 ∨ bw = 2#8 ∨ bw = 4#8 →
      let last := a + BitVec.ofNat 24 (bw.toNat - 1)
      let inside := a.toNat + bw.toNat - 1 ≤ 0xFFFFFF
      (¬ inside ∨ lookup s a ≠ lookup s last →
        exec (.probe bm bd bw a) s = .next (reply [0x00#8, 0x03#8, 0xFF#8, 0xFF#8, 0xFF#8, 0xFF#8] s₀)) ∧
      (inside → lookup s a = none → lookup s last = none → s.missPolicy = .abort →
        exec (.probe bm bd bw a) s = .next (reply [0x00#8, 0x02#8, 0xFF#8, 0xFF#8, 0xFF#8, 0xFF#8] s₀)) ∧
      (inside → lookup s a = none → lookup s last = none → s.missPolicy = .fallback →
        exec (.probe bm bd bw a) s = .next (reply [0x00#8, 0x00#8, 0xFF#8, BitVec.ofNat 8 s.fallbackDevice.val,
          residencyByte (s.device s.fallbackDevice).residency, 0x00#8] s₀)) ∧
      (∀ n, inside → lookup s a = some n → lookup s last = some n →
        let w := s.slot n
        exec (.probe bm bd bw a) s = .next (reply [0x00#8,
          if w.permissions.getLsbD (2 * m.val + bd.toNat) = false then 0x04#8
          else if w.watch = .all ∨ (w.watch = .writes ∧ bd.toNat = 1) then 0x01#8 else 0x00#8,
          BitVec.ofNat 8 n.val, BitVec.ofNat 8 w.device.val, residencyByte (s.device w.device).residency,
          watchByte w.watch] s₀)))

/-! ## Intercepts -/

/-- R100, R171: INTERCEPT INFO replies fourteen bytes about the claim at the head of the intercept list, or
NOTHING_PENDING, and changes no record. -/
def Obligations.InterceptInfoReportsTheHead : Prop :=
  ∀ s : State, s.inReset = false → s.port.busy = false →
    let s₀ := takeCommandByte s.quiet
    (s.interceptList = [] → exec .interceptInfo s = .next (reply [0x0B#8] s₀)) ∧
    (∀ m rest c n g, s.interceptList = m :: rest → s.claim m = some c → c.access.binding = .slot n g →
      exec .interceptInfo s = .next (reply
        ([0x00#8, BitVec.ofNat 8 m.val, if c.access.direction = .read then 0x00#8 else 0x01#8,
          BitVec.ofNat 8 c.access.width.bytes, c.access.address.extractLsb' 0 8, c.access.address.extractLsb' 8 8,
          c.access.address.extractLsb' 16 8] ++
          (c.access.writeData.getD [] ++ List.replicate (4 - (c.access.writeData.getD []).length) 0x00#8) ++
          [BitVec.ofNat 8 n.val, BitVec.ofNat 8 g.val, BitVec.ofNat 8 (timerLeft c.timer)]) s₀))

/-- R101 to R104, R172: a verdict for a caught claim. PASS makes the claim's residency step; REFUSE answers REFUSED;
SUPPLY answers SUPPLIED with the verdict's bytes for a READ and 00h for a WRITE and sets the touched flag. The result
is OK in each case. -/
def Obligations.VerdictsAreAppliedToCaughtClaims : Prop :=
  ∀ (s : State) (b : Byte) (x : DataWord) (m : Master) (c : Claim), s.inReset = false → s.port.busy = false →
    PlacesLaw s → b.toNat = m.val → s.claim m = some c → c.phase = .intercept →
    let s₀ := takeCommandByte s.quiet
    let left := s.interceptList.filter fun k => decide (k ≠ m)
    let answered := fun (reason : Reason) (data : DataWord) (t : State) =>
      t = { s₀ with answers := [{ master := m, reason := reason, data := data }], claims := s.claims.set m none
                    interceptList := left, slots := t.slots, devices := t.devices } ∧
      (∀ n, t.slot n = slotAfterAnswer s c.access.binding reason n) ∧
      (∀ d, t.device d = { s.device d with
        refCount := (s.device d).refCount - if freesSlotOf s c.access.binding d then 1 else 0 })
    exec (.verdictPass b x) s = .next (reply [0x00#8] (residencyStep m c.access { s₀ with interceptList := left })) ∧
    (∃ t, exec (.verdictRefuse b x) s = .next (reply [0x00#8] t) ∧ answered .refused 0#32 t) ∧
    (∃ t data, exec (.verdictSupply b x) s = .next (reply [0x00#8] t) ∧ answered .supplied data t ∧
      ∀ i, i < 4 → data.extractLsb' (8 * i) 8 =
        if c.access.direction = .read ∧ i < c.access.width.bytes then x.extractLsb' (8 * i) 8 else 0#8)

/-- R101, R106, R172: a verdict for a master without a caught claim touches no claim: LATE when its marker is set,
which stays set, and NOTHING_PENDING when it is clear; a master out of range gives BAD_VALUE. So does a verdict byte
above 02h, which no row of the table carries: the last byte of its record leaves every record and marker as it was. -/
def Obligations.VerdictsWithoutACaughtClaim : Prop :=
  (∀ (s : State) (b : Byte) (x : DataWord) (c : Instr), s.inReset = false → s.port.busy = false →
    c ∈ [Instr.verdictPass b x, .verdictRefuse b x, .verdictSupply b x] →
    let s₀ := takeCommandByte s.quiet
    (4 ≤ b.toNat → exec c s = .next (reply [0x02#8] s₀)) ∧
    (∀ m : Master, b.toNat = m.val → m ∉ s.interceptList →
      exec c s = .next (reply [if s.marker m then 0x0C#8 else 0x0B#8] s₀))) ∧
  (∀ (s : State) (b v d0 d1 d2 d3 : Byte), s.inReset = false → 3 ≤ v.toNat →
    s.port.condition = .collecting .verdict [b, v, d0, d1, d2] →
    exec (.parameterByte d3) s = .next (reply [0x02#8] s.quiet)) ∧
  (∀ (s : State) (b v d0 d1 d2 d3 : Byte), s.inReset = false → s.port.busy = false → 3 ≤ v.toNat →
    runAll [.commandByte 0x41#8, .parameterByte b, .parameterByte v, .parameterByte d0, .parameterByte d1,
      .parameterByte d2, .parameterByte d3] s = .next (reply [0x02#8] (takeCommandByte s.quiet)))

/-! ## Settings and notification -/

/-- R23, R127, R173: SET MISS POLICY writes the three fields and moves the fallback reference; a parameter out of range
gives BAD_VALUE, and FALLBACK with an ABSENT device NO_DEVICE, and then nothing changes. -/
def Obligations.SetMissPolicyMovesTheReference : Prop :=
  ∀ (s : State) (bp bd bw : Byte), s.inReset = false → s.port.busy = false → ReferenceLaw s →
    let s₀ := takeCommandByte s.quiet
    (2 ≤ bp.toNat ∨ 16 ≤ bd.toNat ∨ 16 ≤ bw.toNat →
      exec (.setMissPolicy bp bd bw) s = .next (reply [0x02#8] s₀)) ∧
    (∀ (d : Device) (w : Fin 16), bp.toNat < 2 → bd.toNat = d.val → bw.toNat = w.val →
      (bp.toNat = 1 → (s.device d).residency = .absent →
        exec (.setMissPolicy bp bd bw) s = .next (reply [0x05#8] s₀)) ∧
      (bp.toNat = 0 ∨ (s.device d).residency ≠ .absent → ∃ t,
        exec (.setMissPolicy bp bd bw) s = .next (reply [0x00#8] t) ∧
        t = { s₀ with missPolicy := if bp.toNat = 1 then .fallback else .abort, fallbackDevice := d
                      fallbackWaits := w, devices := t.devices } ∧
        ∀ e, t.device e = { s.device e with refCount := references t e }))

/-- R80, R97, R174: SET LIMITS writes both limits, or neither when one is 0 or above 250. -/
def Obligations.SetLimitsWritesBothOrNeither : Prop :=
  ∀ (s : State) (h i : Byte), s.inReset = false → s.port.busy = false →
    let s₀ := takeCommandByte s.quiet
    let inRange := (1 ≤ h.toNat ∧ h.toNat ≤ 250) ∧ (1 ≤ i.toNat ∧ i.toNat ≤ 250)
    (inRange → exec (.setLimits h i) s = .next (reply [0x00#8]
      { s₀ with holdLimit := h.toNat, interceptLimit := i.toNat })) ∧
    (¬ inRange → exec (.setLimits h i) s = .next (reply [0x02#8] s₀))

/-- R140, R141, R142, R144, R175: SET NOTIFY MASK writes the mask and opens the gate, CLEAR NOTIFY clears the named
flags, both refuse a byte with bit 5, 6 or 7 set, and READ NOTIFY reports flags, mask and gate. -/
def Obligations.NotifyCommandsActOnMaskFlagsAndGate : Prop :=
  ∀ (s : State) (b : Byte), s.inReset = false → s.port.busy = false →
    let s₀ := takeCommandByte s.quiet
    (b.toNat < 32 → exec (.setNotifyMask b) s = .next (reply [0x00#8] { s₀ with
        gate := true
        mask := { intercept := b.getLsbD 0, fault := b.getLsbD 1, timeout := b.getLsbD 2, done := b.getLsbD 3,
                  port := b.getLsbD 4 } }) ∧
      exec (.clearNotify b) s = .next (reply [0x00#8] { s₀ with
        flags := { intercept := s₀.flags.intercept && !b.getLsbD 0, fault := s₀.flags.fault && !b.getLsbD 1,
                   timeout := s₀.flags.timeout && !b.getLsbD 2, done := s₀.flags.done && !b.getLsbD 3,
                   port := s₀.flags.port && !b.getLsbD 4 } })) ∧
    (32 ≤ b.toNat → exec (.setNotifyMask b) s = .next (reply [0x02#8] s₀) ∧
      exec (.clearNotify b) s = .next (reply [0x02#8] s₀)) ∧
    ∃ f e : Byte, exec .readNotify s = .next (reply [0x00#8, f, e, if s.gate then 0x01#8 else 0x00#8] s₀) ∧
      (f.getLsbD 0, f.getLsbD 1, f.getLsbD 2, f.getLsbD 3, f.getLsbD 4, f.getLsbD 5, f.getLsbD 6, f.getLsbD 7) =
        (s₀.flags.intercept, s₀.flags.fault, s₀.flags.timeout, s₀.flags.done, s₀.flags.port, false, false, false) ∧
      (e.getLsbD 0, e.getLsbD 1, e.getLsbD 2, e.getLsbD 3, e.getLsbD 4, e.getLsbD 5, e.getLsbD 6, e.getLsbD 7) =
        (s.mask.intercept, s.mask.fault, s.mask.timeout, s.mask.done, s.mask.port, false, false, false)

/-! ## Laws that every step keeps -/

/-- The state after reset obeys every law of the device. -/
def Obligations.ResetObeysEveryLaw : Prop :=
  SlotsShaped State.reset ∧ EqualPrecedenceLaw State.reset ∧ ReferenceLaw State.reset ∧ NamedDeviceLaw State.reset ∧
    PlacesLaw State.reset ∧ CycleNumberLaw State.reset ∧ BoundLaw State.reset ∧ ClaimsShaped State.reset ∧ DevicesLawful State.reset ∧
    ConformityLaw State.reset ∧ HeldCountLaw State.reset ∧ ResidencyLaw State.reset ∧ PortLaw State.reset

/-- R2, R3: every step keeps the shape of the windows. -/
def Obligations.StepKeepsSlotsShaped : Prop :=
  ∀ s t : State, SlotsShaped s → step s = .next t → SlotsShaped t

/-- R22: every step keeps the law of equal precedence. -/
def Obligations.StepKeepsEqualPrecedence : Prop :=
  ∀ s t : State, EqualPrecedenceLaw s → step s = .next t → EqualPrecedenceLaw t

/-- R5, R55: every step keeps the reference counts equal to the references, and every named device present. -/
def Obligations.StepKeepsTheReferences : Prop :=
  ∀ s t : State, ReferenceLaw s → NamedDeviceLaw s → step s = .next t → ReferenceLaw t ∧ NamedDeviceLaw t

/-- R29, R39, R43: every step keeps each claim in exactly the one place its phase names. A cycle in progress after a
step is the one before it or has a number never given before, so that the response to a cut cycle answers no later one
(the numbers are assumption 18). -/
def Obligations.StepKeepsEveryClaimInOnePlace : Prop :=
  ∀ s t : State, PlacesLaw s → CycleNumberLaw s → step s = .next t →
    PlacesLaw t ∧ CycleNumberLaw t ∧ s.cyclesBegun ≤ t.cyclesBegun ∧
      ∀ cy ∈ t.cycle, s.cycle = some cy ∨ s.cyclesBegun ≤ cy.number

/-- R12, R13, R34: every step keeps the bound counts equal to the claims bound, FREE and STAGED slots without a claim
and DRAINING slots with one. -/
def Obligations.StepKeepsTheBoundCounts : Prop :=
  ∀ s t : State, PlacesLaw s → BoundLaw s → step s = .next t → BoundLaw t

/-- R28, R148, R152: every step keeps the claim records and the port as their tables say, and every reply within 20
bytes. -/
def Obligations.StepKeepsClaimsAndPortShaped : Prop :=
  ∀ s t : State, ClaimsShaped s → PortLaw s → step s = .next t → ClaimsShaped t ∧ PortLaw t

/-- R53, R54, R66: every step keeps PEN, the timers and the fault cause of every device as its residency says, and an
ON or PARKING device in conformity. -/
def Obligations.StepKeepsTheDevicesLawful : Prop :=
  ∀ s t : State, DevicesLawful s → ConformityLaw s → step s = .next t → DevicesLawful t ∧ ConformityLaw t

/-- R56, R73: every step keeps the held counts equal to the claims held, and each claim's device in a residency that its
phase allows. -/
def Obligations.StepKeepsClaimsWithTheirDevices : Prop :=
  ∀ s t : State, PlacesLaw s → HeldCountLaw s → ResidencyLaw s → step s = .next t → HeldCountLaw t ∧ ResidencyLaw t

/-- R44: every claim taken receives exactly one answer. In a command other than a bus reset or a power-on reset, a
master is answered exactly when its claim in flight ends or its arriving claim is answered at once, and then once; in a
bus reset or a power-on reset no answer is given. -/
def Obligations.EveryClaimReceivesOneAnswer : Prop :=
  ∀ (s t : State) (c : Instr) (m : Master), PlacesLaw s → exec c s = .next t →
    let answers := t.answers.countP fun x => decide (x.master = m)
    (c = .busReset ∨ c = .powerOnReset → answers = 0) ∧
    (c ≠ .busReset → c ≠ .powerOnReset → (∀ x y z, c ≠ .endOfPowerOnReset x y z) → s.inReset = false →
      ((∀ a dir w x, c ≠ .claimArrival m a dir w x) ∨ (s.claim m).isSome = true →
        answers = if (s.claim m).isSome = true ∧ t.claim m = none then 1 else 0) ∧
      (∀ a dir w x, c = .claimArrival m a dir w x → s.claim m = none →
        answers = if t.claim m = none then 1 else 0))
end

