-- ==== Sys2Proof/Laws/State.lean ====
section
/-! SUPPORT. One lemma per field and update of the state, and the reads of the tables after a write. -/

namespace Sys2Proof.Machine

/-! ## Tables -/

@[simp] theorem mapTable_getElem {α β : Type} {n : Nat} (f : Fin n → α → β) (v : Vector α n) (i : Fin n) :
    (mapTable f v)[i] = f i v[i] := by
  simp [mapTable]

theorem slot_def (s : State) (n : SlotId) : s.slot n = s.slots[n] := rfl

theorem device_def (s : State) (d : Device) : s.device d = s.devices[d] := rfl

theorem claim_def (s : State) (m : Master) : s.claim m = s.claims[m] := rfl

theorem marker_def (s : State) (m : Master) : s.marker m = s.markers[m] := rfl

theorem vector_set_getElem {α : Type} {n : Nat} (v : Vector α n) (i j : Fin n) (x : α) :
    (v.set i x)[j] = if j = i then x else v[j] := by
  simp only [Fin.getElem_fin, Vector.getElem_set, Fin.ext_iff, eq_comm]

@[simp] theorem slot_setSlot (s : State) (n m : SlotId) (w : Slot) :
    (s.setSlot n w).slot m = if m = n then w else s.slot m :=
  vector_set_getElem s.slots n m w

@[simp] theorem device_setDevice (s : State) (d e : Device) (r : DeviceRecord) :
    (s.setDevice d r).device e = if e = d then r else s.device e :=
  vector_set_getElem s.devices d e r

@[simp] theorem claim_setClaim (s : State) (m k : Master) (c : Option Claim) :
    (s.setClaim m c).claim k = if k = m then c else s.claim k :=
  vector_set_getElem s.claims m k c

@[simp] theorem marker_setMarker (s : State) (m k : Master) (b : Bool) :
    (s.setMarker m b).marker k = if k = m then b else s.marker k :=
  vector_set_getElem s.markers m k b

/-- Two states with equal fields are equal, the tables read entry by entry. -/
theorem vector_ext_fin {α : Type} {n : Nat} {v w : Vector α n} (h : ∀ i : Fin n, v[i] = w[i]) : v = w :=
  Vector.ext fun i hi => h ⟨i, hi⟩

/-! ## `setSlot` -/

@[simp] theorem setSlot_missPolicy (s : State) (n : SlotId) (w : Slot) : (s.setSlot n w).missPolicy = s.missPolicy := rfl
@[simp] theorem setSlot_fallbackDevice (s : State) (n : SlotId) (w : Slot) : (s.setSlot n w).fallbackDevice = s.fallbackDevice := rfl
@[simp] theorem setSlot_fallbackWaits (s : State) (n : SlotId) (w : Slot) : (s.setSlot n w).fallbackWaits = s.fallbackWaits := rfl
@[simp] theorem setSlot_claims (s : State) (n : SlotId) (w : Slot) : (s.setSlot n w).claims = s.claims := rfl
@[simp] theorem setSlot_interceptList (s : State) (n : SlotId) (w : Slot) : (s.setSlot n w).interceptList = s.interceptList := rfl
@[simp] theorem setSlot_holdList (s : State) (n : SlotId) (w : Slot) : (s.setSlot n w).holdList = s.holdList := rfl
@[simp] theorem setSlot_readyList (s : State) (n : SlotId) (w : Slot) : (s.setSlot n w).readyList = s.readyList := rfl
@[simp] theorem setSlot_cycle (s : State) (n : SlotId) (w : Slot) : (s.setSlot n w).cycle = s.cycle := rfl
@[simp] theorem setSlot_cyclesBegun (s : State) (n : SlotId) (w : Slot) : (s.setSlot n w).cyclesBegun = s.cyclesBegun := rfl
@[simp] theorem setSlot_devices (s : State) (n : SlotId) (w : Slot) : (s.setSlot n w).devices = s.devices := rfl
@[simp] theorem setSlot_pgd (s : State) (n : SlotId) (w : Slot) : (s.setSlot n w).pgd = s.pgd := rfl
@[simp] theorem setSlot_holdLimit (s : State) (n : SlotId) (w : Slot) : (s.setSlot n w).holdLimit = s.holdLimit := rfl
@[simp] theorem setSlot_interceptLimit (s : State) (n : SlotId) (w : Slot) : (s.setSlot n w).interceptLimit = s.interceptLimit := rfl
@[simp] theorem setSlot_markers (s : State) (n : SlotId) (w : Slot) : (s.setSlot n w).markers = s.markers := rfl
@[simp] theorem setSlot_divider (s : State) (n : SlotId) (w : Slot) : (s.setSlot n w).divider = s.divider := rfl
@[simp] theorem setSlot_flags (s : State) (n : SlotId) (w : Slot) : (s.setSlot n w).flags = s.flags := rfl
@[simp] theorem setSlot_mask (s : State) (n : SlotId) (w : Slot) : (s.setSlot n w).mask = s.mask := rfl
@[simp] theorem setSlot_gate (s : State) (n : SlotId) (w : Slot) : (s.setSlot n w).gate = s.gate := rfl
@[simp] theorem setSlot_port (s : State) (n : SlotId) (w : Slot) : (s.setSlot n w).port = s.port := rfl
@[simp] theorem setSlot_straps (s : State) (n : SlotId) (w : Slot) : (s.setSlot n w).straps = s.straps := rfl
@[simp] theorem setSlot_inReset (s : State) (n : SlotId) (w : Slot) : (s.setSlot n w).inReset = s.inReset := rfl
@[simp] theorem setSlot_answers (s : State) (n : SlotId) (w : Slot) : (s.setSlot n w).answers = s.answers := rfl
@[simp] theorem setSlot_md (s : State) (n : SlotId) (w : Slot) : (s.setSlot n w).md = s.md := rfl
@[simp] theorem setSlot_penPulses (s : State) (n : SlotId) (w : Slot) : (s.setSlot n w).penPulses = s.penPulses := rfl
@[simp] theorem setSlot_freeCount (s : State) (n : SlotId) (w : Slot) : (s.setSlot n w).freeCount = s.freeCount := rfl
@[simp] theorem setSlot_pending (s : State) (n : SlotId) (w : Slot) : (s.setSlot n w).pending = s.pending := rfl
@[simp] theorem setSlot_device (s : State) (n : SlotId) (w : Slot) (e : Device) : (s.setSlot n w).device e = s.device e := rfl
@[simp] theorem setSlot_claim (s : State) (n : SlotId) (w : Slot) (k : Master) : (s.setSlot n w).claim k = s.claim k := rfl
@[simp] theorem setSlot_marker (s : State) (n : SlotId) (w : Slot) (k : Master) : (s.setSlot n w).marker k = s.marker k := rfl
@[simp] theorem setSlot_pgdLevel (s : State) (n : SlotId) (w : Slot) (e : Device) : (s.setSlot n w).pgdLevel e = s.pgdLevel e := rfl

/-! ## `setDevice` -/

@[simp] theorem setDevice_slots (s : State) (d : Device) (r : DeviceRecord) : (s.setDevice d r).slots = s.slots := rfl
@[simp] theorem setDevice_missPolicy (s : State) (d : Device) (r : DeviceRecord) : (s.setDevice d r).missPolicy = s.missPolicy := rfl
@[simp] theorem setDevice_fallbackDevice (s : State) (d : Device) (r : DeviceRecord) : (s.setDevice d r).fallbackDevice = s.fallbackDevice := rfl
@[simp] theorem setDevice_fallbackWaits (s : State) (d : Device) (r : DeviceRecord) : (s.setDevice d r).fallbackWaits = s.fallbackWaits := rfl
@[simp] theorem setDevice_claims (s : State) (d : Device) (r : DeviceRecord) : (s.setDevice d r).claims = s.claims := rfl
@[simp] theorem setDevice_interceptList (s : State) (d : Device) (r : DeviceRecord) : (s.setDevice d r).interceptList = s.interceptList := rfl
@[simp] theorem setDevice_holdList (s : State) (d : Device) (r : DeviceRecord) : (s.setDevice d r).holdList = s.holdList := rfl
@[simp] theorem setDevice_readyList (s : State) (d : Device) (r : DeviceRecord) : (s.setDevice d r).readyList = s.readyList := rfl
@[simp] theorem setDevice_cycle (s : State) (d : Device) (r : DeviceRecord) : (s.setDevice d r).cycle = s.cycle := rfl
@[simp] theorem setDevice_cyclesBegun (s : State) (d : Device) (r : DeviceRecord) : (s.setDevice d r).cyclesBegun = s.cyclesBegun := rfl
@[simp] theorem setDevice_pgd (s : State) (d : Device) (r : DeviceRecord) : (s.setDevice d r).pgd = s.pgd := rfl
@[simp] theorem setDevice_holdLimit (s : State) (d : Device) (r : DeviceRecord) : (s.setDevice d r).holdLimit = s.holdLimit := rfl
@[simp] theorem setDevice_interceptLimit (s : State) (d : Device) (r : DeviceRecord) : (s.setDevice d r).interceptLimit = s.interceptLimit := rfl
@[simp] theorem setDevice_markers (s : State) (d : Device) (r : DeviceRecord) : (s.setDevice d r).markers = s.markers := rfl
@[simp] theorem setDevice_divider (s : State) (d : Device) (r : DeviceRecord) : (s.setDevice d r).divider = s.divider := rfl
@[simp] theorem setDevice_flags (s : State) (d : Device) (r : DeviceRecord) : (s.setDevice d r).flags = s.flags := rfl
@[simp] theorem setDevice_mask (s : State) (d : Device) (r : DeviceRecord) : (s.setDevice d r).mask = s.mask := rfl
@[simp] theorem setDevice_gate (s : State) (d : Device) (r : DeviceRecord) : (s.setDevice d r).gate = s.gate := rfl
@[simp] theorem setDevice_port (s : State) (d : Device) (r : DeviceRecord) : (s.setDevice d r).port = s.port := rfl
@[simp] theorem setDevice_straps (s : State) (d : Device) (r : DeviceRecord) : (s.setDevice d r).straps = s.straps := rfl
@[simp] theorem setDevice_inReset (s : State) (d : Device) (r : DeviceRecord) : (s.setDevice d r).inReset = s.inReset := rfl
@[simp] theorem setDevice_answers (s : State) (d : Device) (r : DeviceRecord) : (s.setDevice d r).answers = s.answers := rfl
@[simp] theorem setDevice_md (s : State) (d : Device) (r : DeviceRecord) : (s.setDevice d r).md = s.md := rfl
@[simp] theorem setDevice_penPulses (s : State) (d : Device) (r : DeviceRecord) : (s.setDevice d r).penPulses = s.penPulses := rfl
@[simp] theorem setDevice_freeCount (s : State) (d : Device) (r : DeviceRecord) : (s.setDevice d r).freeCount = s.freeCount := rfl
@[simp] theorem setDevice_pending (s : State) (d : Device) (r : DeviceRecord) : (s.setDevice d r).pending = s.pending := rfl
@[simp] theorem setDevice_slot (s : State) (d : Device) (r : DeviceRecord) (k : SlotId) : (s.setDevice d r).slot k = s.slot k := rfl
@[simp] theorem setDevice_claim (s : State) (d : Device) (r : DeviceRecord) (k : Master) : (s.setDevice d r).claim k = s.claim k := rfl
@[simp] theorem setDevice_marker (s : State) (d : Device) (r : DeviceRecord) (k : Master) : (s.setDevice d r).marker k = s.marker k := rfl
@[simp] theorem setDevice_pgdLevel (s : State) (d : Device) (r : DeviceRecord) (e : Device) : (s.setDevice d r).pgdLevel e = s.pgdLevel e := rfl

/-! ## `setClaim` -/

@[simp] theorem setClaim_slots (s : State) (m : Master) (c : Option Claim) : (s.setClaim m c).slots = s.slots := rfl
@[simp] theorem setClaim_missPolicy (s : State) (m : Master) (c : Option Claim) : (s.setClaim m c).missPolicy = s.missPolicy := rfl
@[simp] theorem setClaim_fallbackDevice (s : State) (m : Master) (c : Option Claim) : (s.setClaim m c).fallbackDevice = s.fallbackDevice := rfl
@[simp] theorem setClaim_fallbackWaits (s : State) (m : Master) (c : Option Claim) : (s.setClaim m c).fallbackWaits = s.fallbackWaits := rfl
@[simp] theorem setClaim_interceptList (s : State) (m : Master) (c : Option Claim) : (s.setClaim m c).interceptList = s.interceptList := rfl
@[simp] theorem setClaim_holdList (s : State) (m : Master) (c : Option Claim) : (s.setClaim m c).holdList = s.holdList := rfl
@[simp] theorem setClaim_readyList (s : State) (m : Master) (c : Option Claim) : (s.setClaim m c).readyList = s.readyList := rfl
@[simp] theorem setClaim_cycle (s : State) (m : Master) (c : Option Claim) : (s.setClaim m c).cycle = s.cycle := rfl
@[simp] theorem setClaim_cyclesBegun (s : State) (m : Master) (c : Option Claim) : (s.setClaim m c).cyclesBegun = s.cyclesBegun := rfl
@[simp] theorem setClaim_devices (s : State) (m : Master) (c : Option Claim) : (s.setClaim m c).devices = s.devices := rfl
@[simp] theorem setClaim_pgd (s : State) (m : Master) (c : Option Claim) : (s.setClaim m c).pgd = s.pgd := rfl
@[simp] theorem setClaim_holdLimit (s : State) (m : Master) (c : Option Claim) : (s.setClaim m c).holdLimit = s.holdLimit := rfl
@[simp] theorem setClaim_interceptLimit (s : State) (m : Master) (c : Option Claim) : (s.setClaim m c).interceptLimit = s.interceptLimit := rfl
@[simp] theorem setClaim_markers (s : State) (m : Master) (c : Option Claim) : (s.setClaim m c).markers = s.markers := rfl
@[simp] theorem setClaim_divider (s : State) (m : Master) (c : Option Claim) : (s.setClaim m c).divider = s.divider := rfl
@[simp] theorem setClaim_flags (s : State) (m : Master) (c : Option Claim) : (s.setClaim m c).flags = s.flags := rfl
@[simp] theorem setClaim_mask (s : State) (m : Master) (c : Option Claim) : (s.setClaim m c).mask = s.mask := rfl
@[simp] theorem setClaim_gate (s : State) (m : Master) (c : Option Claim) : (s.setClaim m c).gate = s.gate := rfl
@[simp] theorem setClaim_port (s : State) (m : Master) (c : Option Claim) : (s.setClaim m c).port = s.port := rfl
@[simp] theorem setClaim_straps (s : State) (m : Master) (c : Option Claim) : (s.setClaim m c).straps = s.straps := rfl
@[simp] theorem setClaim_inReset (s : State) (m : Master) (c : Option Claim) : (s.setClaim m c).inReset = s.inReset := rfl
@[simp] theorem setClaim_answers (s : State) (m : Master) (c : Option Claim) : (s.setClaim m c).answers = s.answers := rfl
@[simp] theorem setClaim_md (s : State) (m : Master) (c : Option Claim) : (s.setClaim m c).md = s.md := rfl
@[simp] theorem setClaim_penPulses (s : State) (m : Master) (c : Option Claim) : (s.setClaim m c).penPulses = s.penPulses := rfl
@[simp] theorem setClaim_freeCount (s : State) (m : Master) (c : Option Claim) : (s.setClaim m c).freeCount = s.freeCount := rfl
@[simp] theorem setClaim_pending (s : State) (m : Master) (c : Option Claim) : (s.setClaim m c).pending = s.pending := rfl
@[simp] theorem setClaim_slot (s : State) (m : Master) (c : Option Claim) (k : SlotId) : (s.setClaim m c).slot k = s.slot k := rfl
@[simp] theorem setClaim_device (s : State) (m : Master) (c : Option Claim) (e : Device) : (s.setClaim m c).device e = s.device e := rfl
@[simp] theorem setClaim_marker (s : State) (m : Master) (c : Option Claim) (k : Master) : (s.setClaim m c).marker k = s.marker k := rfl
@[simp] theorem setClaim_pgdLevel (s : State) (m : Master) (c : Option Claim) (e : Device) : (s.setClaim m c).pgdLevel e = s.pgdLevel e := rfl

/-! ## `setMarker` -/

@[simp] theorem setMarker_slots (s : State) (m : Master) (b : Bool) : (s.setMarker m b).slots = s.slots := rfl
@[simp] theorem setMarker_missPolicy (s : State) (m : Master) (b : Bool) : (s.setMarker m b).missPolicy = s.missPolicy := rfl
@[simp] theorem setMarker_fallbackDevice (s : State) (m : Master) (b : Bool) : (s.setMarker m b).fallbackDevice = s.fallbackDevice := rfl
@[simp] theorem setMarker_fallbackWaits (s : State) (m : Master) (b : Bool) : (s.setMarker m b).fallbackWaits = s.fallbackWaits := rfl
@[simp] theorem setMarker_claims (s : State) (m : Master) (b : Bool) : (s.setMarker m b).claims = s.claims := rfl
@[simp] theorem setMarker_interceptList (s : State) (m : Master) (b : Bool) : (s.setMarker m b).interceptList = s.interceptList := rfl
@[simp] theorem setMarker_holdList (s : State) (m : Master) (b : Bool) : (s.setMarker m b).holdList = s.holdList := rfl
@[simp] theorem setMarker_readyList (s : State) (m : Master) (b : Bool) : (s.setMarker m b).readyList = s.readyList := rfl
@[simp] theorem setMarker_cycle (s : State) (m : Master) (b : Bool) : (s.setMarker m b).cycle = s.cycle := rfl
@[simp] theorem setMarker_cyclesBegun (s : State) (m : Master) (b : Bool) : (s.setMarker m b).cyclesBegun = s.cyclesBegun := rfl
@[simp] theorem setMarker_devices (s : State) (m : Master) (b : Bool) : (s.setMarker m b).devices = s.devices := rfl
@[simp] theorem setMarker_pgd (s : State) (m : Master) (b : Bool) : (s.setMarker m b).pgd = s.pgd := rfl
@[simp] theorem setMarker_holdLimit (s : State) (m : Master) (b : Bool) : (s.setMarker m b).holdLimit = s.holdLimit := rfl
@[simp] theorem setMarker_interceptLimit (s : State) (m : Master) (b : Bool) : (s.setMarker m b).interceptLimit = s.interceptLimit := rfl
@[simp] theorem setMarker_divider (s : State) (m : Master) (b : Bool) : (s.setMarker m b).divider = s.divider := rfl
@[simp] theorem setMarker_flags (s : State) (m : Master) (b : Bool) : (s.setMarker m b).flags = s.flags := rfl
@[simp] theorem setMarker_mask (s : State) (m : Master) (b : Bool) : (s.setMarker m b).mask = s.mask := rfl
@[simp] theorem setMarker_gate (s : State) (m : Master) (b : Bool) : (s.setMarker m b).gate = s.gate := rfl
@[simp] theorem setMarker_port (s : State) (m : Master) (b : Bool) : (s.setMarker m b).port = s.port := rfl
@[simp] theorem setMarker_straps (s : State) (m : Master) (b : Bool) : (s.setMarker m b).straps = s.straps := rfl
@[simp] theorem setMarker_inReset (s : State) (m : Master) (b : Bool) : (s.setMarker m b).inReset = s.inReset := rfl
@[simp] theorem setMarker_answers (s : State) (m : Master) (b : Bool) : (s.setMarker m b).answers = s.answers := rfl
@[simp] theorem setMarker_md (s : State) (m : Master) (b : Bool) : (s.setMarker m b).md = s.md := rfl
@[simp] theorem setMarker_penPulses (s : State) (m : Master) (b : Bool) : (s.setMarker m b).penPulses = s.penPulses := rfl
@[simp] theorem setMarker_freeCount (s : State) (m : Master) (b : Bool) : (s.setMarker m b).freeCount = s.freeCount := rfl
@[simp] theorem setMarker_pending (s : State) (m : Master) (b : Bool) : (s.setMarker m b).pending = s.pending := rfl
@[simp] theorem setMarker_slot (s : State) (m : Master) (b : Bool) (k : SlotId) : (s.setMarker m b).slot k = s.slot k := rfl
@[simp] theorem setMarker_device (s : State) (m : Master) (b : Bool) (e : Device) : (s.setMarker m b).device e = s.device e := rfl
@[simp] theorem setMarker_claim (s : State) (m : Master) (b : Bool) (k : Master) : (s.setMarker m b).claim k = s.claim k := rfl
@[simp] theorem setMarker_pgdLevel (s : State) (m : Master) (b : Bool) (e : Device) : (s.setMarker m b).pgdLevel e = s.pgdLevel e := rfl

/-! ## `raise` -/

@[simp] theorem raise_slots (s : State) (c : Cause) : (raise c s).slots = s.slots := rfl
@[simp] theorem raise_missPolicy (s : State) (c : Cause) : (raise c s).missPolicy = s.missPolicy := rfl
@[simp] theorem raise_fallbackDevice (s : State) (c : Cause) : (raise c s).fallbackDevice = s.fallbackDevice := rfl
@[simp] theorem raise_fallbackWaits (s : State) (c : Cause) : (raise c s).fallbackWaits = s.fallbackWaits := rfl
@[simp] theorem raise_claims (s : State) (c : Cause) : (raise c s).claims = s.claims := rfl
@[simp] theorem raise_interceptList (s : State) (c : Cause) : (raise c s).interceptList = s.interceptList := rfl
@[simp] theorem raise_holdList (s : State) (c : Cause) : (raise c s).holdList = s.holdList := rfl
@[simp] theorem raise_readyList (s : State) (c : Cause) : (raise c s).readyList = s.readyList := rfl
@[simp] theorem raise_cycle (s : State) (c : Cause) : (raise c s).cycle = s.cycle := rfl
@[simp] theorem raise_cyclesBegun (s : State) (c : Cause) : (raise c s).cyclesBegun = s.cyclesBegun := rfl
@[simp] theorem raise_devices (s : State) (c : Cause) : (raise c s).devices = s.devices := rfl
@[simp] theorem raise_pgd (s : State) (c : Cause) : (raise c s).pgd = s.pgd := rfl
@[simp] theorem raise_holdLimit (s : State) (c : Cause) : (raise c s).holdLimit = s.holdLimit := rfl
@[simp] theorem raise_interceptLimit (s : State) (c : Cause) : (raise c s).interceptLimit = s.interceptLimit := rfl
@[simp] theorem raise_markers (s : State) (c : Cause) : (raise c s).markers = s.markers := rfl
@[simp] theorem raise_divider (s : State) (c : Cause) : (raise c s).divider = s.divider := rfl
@[simp] theorem raise_mask (s : State) (c : Cause) : (raise c s).mask = s.mask := rfl
@[simp] theorem raise_gate (s : State) (c : Cause) : (raise c s).gate = s.gate := rfl
@[simp] theorem raise_port (s : State) (c : Cause) : (raise c s).port = s.port := rfl
@[simp] theorem raise_straps (s : State) (c : Cause) : (raise c s).straps = s.straps := rfl
@[simp] theorem raise_inReset (s : State) (c : Cause) : (raise c s).inReset = s.inReset := rfl
@[simp] theorem raise_answers (s : State) (c : Cause) : (raise c s).answers = s.answers := rfl
@[simp] theorem raise_md (s : State) (c : Cause) : (raise c s).md = s.md := rfl
@[simp] theorem raise_penPulses (s : State) (c : Cause) : (raise c s).penPulses = s.penPulses := rfl
@[simp] theorem raise_freeCount (s : State) (c : Cause) : (raise c s).freeCount = s.freeCount := rfl
@[simp] theorem raise_pending (s : State) (c : Cause) : (raise c s).pending = s.pending := rfl
@[simp] theorem raise_slot (s : State) (c : Cause) (k : SlotId) : (raise c s).slot k = s.slot k := rfl
@[simp] theorem raise_device (s : State) (c : Cause) (e : Device) : (raise c s).device e = s.device e := rfl
@[simp] theorem raise_claim (s : State) (c : Cause) (k : Master) : (raise c s).claim k = s.claim k := rfl
@[simp] theorem raise_marker (s : State) (c : Cause) (k : Master) : (raise c s).marker k = s.marker k := rfl
@[simp] theorem raise_pgdLevel (s : State) (c : Cause) (e : Device) : (raise c s).pgdLevel e = s.pgdLevel e := rfl

/-! ## `reply` -/

@[simp] theorem reply_slots (s : State) (bs : List Byte) : (reply bs s).slots = s.slots := rfl
@[simp] theorem reply_missPolicy (s : State) (bs : List Byte) : (reply bs s).missPolicy = s.missPolicy := rfl
@[simp] theorem reply_fallbackDevice (s : State) (bs : List Byte) : (reply bs s).fallbackDevice = s.fallbackDevice := rfl
@[simp] theorem reply_fallbackWaits (s : State) (bs : List Byte) : (reply bs s).fallbackWaits = s.fallbackWaits := rfl
@[simp] theorem reply_claims (s : State) (bs : List Byte) : (reply bs s).claims = s.claims := rfl
@[simp] theorem reply_interceptList (s : State) (bs : List Byte) : (reply bs s).interceptList = s.interceptList := rfl
@[simp] theorem reply_holdList (s : State) (bs : List Byte) : (reply bs s).holdList = s.holdList := rfl
@[simp] theorem reply_readyList (s : State) (bs : List Byte) : (reply bs s).readyList = s.readyList := rfl
@[simp] theorem reply_cycle (s : State) (bs : List Byte) : (reply bs s).cycle = s.cycle := rfl
@[simp] theorem reply_cyclesBegun (s : State) (bs : List Byte) : (reply bs s).cyclesBegun = s.cyclesBegun := rfl
@[simp] theorem reply_devices (s : State) (bs : List Byte) : (reply bs s).devices = s.devices := rfl
@[simp] theorem reply_pgd (s : State) (bs : List Byte) : (reply bs s).pgd = s.pgd := rfl
@[simp] theorem reply_holdLimit (s : State) (bs : List Byte) : (reply bs s).holdLimit = s.holdLimit := rfl
@[simp] theorem reply_interceptLimit (s : State) (bs : List Byte) : (reply bs s).interceptLimit = s.interceptLimit := rfl
@[simp] theorem reply_markers (s : State) (bs : List Byte) : (reply bs s).markers = s.markers := rfl
@[simp] theorem reply_divider (s : State) (bs : List Byte) : (reply bs s).divider = s.divider := rfl
@[simp] theorem reply_flags (s : State) (bs : List Byte) : (reply bs s).flags = s.flags := rfl
@[simp] theorem reply_mask (s : State) (bs : List Byte) : (reply bs s).mask = s.mask := rfl
@[simp] theorem reply_gate (s : State) (bs : List Byte) : (reply bs s).gate = s.gate := rfl
@[simp] theorem reply_straps (s : State) (bs : List Byte) : (reply bs s).straps = s.straps := rfl
@[simp] theorem reply_inReset (s : State) (bs : List Byte) : (reply bs s).inReset = s.inReset := rfl
@[simp] theorem reply_answers (s : State) (bs : List Byte) : (reply bs s).answers = s.answers := rfl
@[simp] theorem reply_md (s : State) (bs : List Byte) : (reply bs s).md = s.md := rfl
@[simp] theorem reply_penPulses (s : State) (bs : List Byte) : (reply bs s).penPulses = s.penPulses := rfl
@[simp] theorem reply_freeCount (s : State) (bs : List Byte) : (reply bs s).freeCount = s.freeCount := rfl
@[simp] theorem reply_pending (s : State) (bs : List Byte) : (reply bs s).pending = s.pending := rfl
@[simp] theorem reply_slot (s : State) (bs : List Byte) (k : SlotId) : (reply bs s).slot k = s.slot k := rfl
@[simp] theorem reply_device (s : State) (bs : List Byte) (e : Device) : (reply bs s).device e = s.device e := rfl
@[simp] theorem reply_claim (s : State) (bs : List Byte) (k : Master) : (reply bs s).claim k = s.claim k := rfl
@[simp] theorem reply_marker (s : State) (bs : List Byte) (k : Master) : (reply bs s).marker k = s.marker k := rfl
@[simp] theorem reply_pgdLevel (s : State) (bs : List Byte) (e : Device) : (reply bs s).pgdLevel e = s.pgdLevel e := rfl

/-! ## `quiet` -/

@[simp] theorem quiet_slots (s : State) : s.quiet.slots = s.slots := rfl
@[simp] theorem quiet_missPolicy (s : State) : s.quiet.missPolicy = s.missPolicy := rfl
@[simp] theorem quiet_fallbackDevice (s : State) : s.quiet.fallbackDevice = s.fallbackDevice := rfl
@[simp] theorem quiet_fallbackWaits (s : State) : s.quiet.fallbackWaits = s.fallbackWaits := rfl
@[simp] theorem quiet_claims (s : State) : s.quiet.claims = s.claims := rfl
@[simp] theorem quiet_interceptList (s : State) : s.quiet.interceptList = s.interceptList := rfl
@[simp] theorem quiet_holdList (s : State) : s.quiet.holdList = s.holdList := rfl
@[simp] theorem quiet_readyList (s : State) : s.quiet.readyList = s.readyList := rfl
@[simp] theorem quiet_cycle (s : State) : s.quiet.cycle = s.cycle := rfl
@[simp] theorem quiet_cyclesBegun (s : State) : s.quiet.cyclesBegun = s.cyclesBegun := rfl
@[simp] theorem quiet_devices (s : State) : s.quiet.devices = s.devices := rfl
@[simp] theorem quiet_pgd (s : State) : s.quiet.pgd = s.pgd := rfl
@[simp] theorem quiet_holdLimit (s : State) : s.quiet.holdLimit = s.holdLimit := rfl
@[simp] theorem quiet_interceptLimit (s : State) : s.quiet.interceptLimit = s.interceptLimit := rfl
@[simp] theorem quiet_markers (s : State) : s.quiet.markers = s.markers := rfl
@[simp] theorem quiet_divider (s : State) : s.quiet.divider = s.divider := rfl
@[simp] theorem quiet_flags (s : State) : s.quiet.flags = s.flags := rfl
@[simp] theorem quiet_mask (s : State) : s.quiet.mask = s.mask := rfl
@[simp] theorem quiet_gate (s : State) : s.quiet.gate = s.gate := rfl
@[simp] theorem quiet_port (s : State) : s.quiet.port = s.port := rfl
@[simp] theorem quiet_straps (s : State) : s.quiet.straps = s.straps := rfl
@[simp] theorem quiet_inReset (s : State) : s.quiet.inReset = s.inReset := rfl
@[simp] theorem quiet_freeCount (s : State) : s.quiet.freeCount = s.freeCount := rfl
@[simp] theorem quiet_pending (s : State) : s.quiet.pending = s.pending := rfl
@[simp] theorem quiet_slot (s : State) (k : SlotId) : s.quiet.slot k = s.slot k := rfl
@[simp] theorem quiet_device (s : State) (e : Device) : s.quiet.device e = s.device e := rfl
@[simp] theorem quiet_claim (s : State) (k : Master) : s.quiet.claim k = s.claim k := rfl
@[simp] theorem quiet_marker (s : State) (k : Master) : s.quiet.marker k = s.marker k := rfl
@[simp] theorem quiet_pgdLevel (s : State) (e : Device) : s.quiet.pgdLevel e = s.pgdLevel e := rfl

@[simp] theorem quiet_answers (s : State) : s.quiet.answers = [] := rfl
@[simp] theorem quiet_md (s : State) : s.quiet.md = none := rfl
@[simp] theorem quiet_penPulses (s : State) : s.quiet.penPulses = [] := rfl
@[simp] theorem raise_flags (s : State) (c : Cause) : (raise c s).flags = s.flags.raise c := rfl
@[simp] theorem reply_port (s : State) (bs : List Byte) :
    (reply bs s).port = { s.port with condition := .replying bs } := rfl

end Sys2Proof.Machine
end

