-- ==== Sys2Proof/Laws/Ops.lean ====
section
/-! SUPPORT. What each shared operation can do, said once: device references, binding, the one answer of a
claim, answers to several claims, wakes, releases and faults. -/

namespace Sys2Proof.Machine

/-! ## Events and the queue -/

theorem event_running {s : State} (f : State → State) (h : s.inReset = false) : event s f = .next (f s.quiet) := by
  simp [event, h]

theorem event_inReset {s : State} (f : State → State) (h : s.inReset = true) : event s f = .next s.quiet := by
  simp [event, h]

/-! ## References -/

@[simp] theorem addReference_slot (s : State) (d : Device) (n : SlotId) : (addReference d s).slot n = s.slot n := rfl

@[simp] theorem dropReference_slot (s : State) (d : Device) (n : SlotId) : (dropReference d s).slot n = s.slot n := rfl

theorem addReference_device (s : State) (d e : Device) :
    (addReference d s).device e = { s.device e with refCount := (s.device e).refCount + if e = d then 1 else 0 } := by
  by_cases h : e = d
  · subst h; simp [addReference]
  · simp [addReference, h]

theorem dropReference_device (s : State) (d e : Device) :
    (dropReference d s).device e = { s.device e with refCount := (s.device e).refCount - if e = d then 1 else 0 } := by
  by_cases h : e = d
  · subst h; simp [dropReference]
  · simp [dropReference, h]

@[simp] theorem freeSlot_slot (s : State) (n m : SlotId) :
    (freeSlot n s).slot m = if m = n then { s.slot n with state := .free } else s.slot m := by
  simp [freeSlot]

theorem freeSlot_device (s : State) (n : SlotId) (d : Device) :
    (freeSlot n s).device d =
      { s.device d with refCount := (s.device d).refCount - if d = (s.slot n).device then 1 else 0 } := by
  simp [freeSlot, dropReference_device]

/-- A freed slot changes the slots and the devices alone. -/
theorem freeSlot_frame (s : State) (n : SlotId) :
    freeSlot n s = { s with slots := (freeSlot n s).slots, devices := (freeSlot n s).devices } := rfl

theorem dropReferences_getElem (p : Slot → Bool) (s : State) (d : Device) :
    (dropReferences p s)[d] =
      { s.device d with
        refCount := (s.device d).refCount - countSlots (fun w => p w && decide (w.device = d)) s.slots } := by
  simp only [dropReferences, mapTable_getElem]; rfl

/-! ## Binding -/

@[simp] theorem raiseBound_slot (s : State) (n m : SlotId) :
    (raiseBound n s).slot m = if m = n then { s.slot n with bound := (s.slot n).bound + 1 } else s.slot m := by
  simp [raiseBound]

@[simp] theorem raiseBound_device (s : State) (n : SlotId) (d : Device) : (raiseBound n s).device d = s.device d := rfl

theorem unbind_frame (b : Binding) (t : Bool) (s : State) :
    unbind b t s = { s with slots := (unbind b t s).slots, devices := (unbind b t s).devices } := by
  cases b with
  | fallback => rfl
  | slot n g => simp only [unbind]; split <;> rfl

theorem unbind_slot (b : Binding) (r : Reason) (s : State) (n : SlotId) :
    (unbind b r.touches s).slot n = slotAfterAnswer s b r n := by
  cases b with
  | fallback => simp [unbind, slotAfterAnswer, Binding.slotId]
  | slot k g =>
    simp only [unbind, slotAfterAnswer, Binding.slotId, Option.some.injEq, Slot.answered]
    by_cases hf : (s.slot k).state = .draining ∧ (s.slot k).bound - 1 = 0
    · have hb : (s.slot k).state = .draining ∧ (s.slot k).bound ≤ 1 := ⟨hf.1, by omega⟩
      rw [if_pos hf]
      by_cases h : n = k
      · subst h; simp [hb]
      · have h' : ¬ k = n := fun e => h e.symm
        simp [h, h']
    · have hb : ¬ ((s.slot k).state = .draining ∧ (s.slot k).bound ≤ 1) := fun e => hf ⟨e.1, by omega⟩
      rw [if_neg hf]
      by_cases h : n = k
      · subst h; simp [hb]
      · have h' : ¬ k = n := fun e => h e.symm
        simp [h, h']

theorem unbind_device (b : Binding) (t : Bool) (s : State) (d : Device) :
    (unbind b t s).device d =
      { s.device d with refCount := (s.device d).refCount - if freesSlotOf s b d then 1 else 0 } := by
  cases b with
  | fallback => simp [unbind, freesSlotOf, Binding.slotId]
  | slot k g =>
    simp only [unbind, freesSlotOf, Binding.slotId]
    by_cases hf : (s.slot k).state = .draining ∧ (s.slot k).bound - 1 = 0
    · have hb : (s.slot k).bound ≤ 1 := by omega
      rw [if_pos hf, freeSlot_device]
      simp [hf.1, hb, eq_comm]
    · have hb : (s.slot k).state = .draining → ¬ (s.slot k).bound ≤ 1 := fun e h => hf ⟨e, by omega⟩
      rw [if_neg hf]
      have : ¬ ((s.slot k).state = .draining ∧ (s.slot k).bound ≤ 1 ∧ (s.slot k).device = d) :=
        fun h => hb h.1 h.2.1
      simp [this]

/-! ## The one answer of a claim (R44) -/

@[simp] theorem leaveLists_slot (m : Master) (s : State) (n : SlotId) : (leaveLists m s).slot n = s.slot n := rfl

@[simp] theorem leaveLists_device (m : Master) (s : State) (d : Device) : (leaveLists m s).device d = s.device d := rfl

@[simp] theorem lowerHeld_slot (d : Device) (s : State) (n : SlotId) : (lowerHeld d s).slot n = s.slot n := rfl

theorem lowerHeld_device (s : State) (d e : Device) :
    (lowerHeld d s).device e = { s.device e with heldCount := (s.device e).heldCount - if d = e then 1 else 0 } := by
  by_cases h : e = d
  · subst h; simp [lowerHeld]
  · have h' : ¬ d = e := fun x => h x.symm
    simp [lowerHeld, h, h']

theorem raiseHeld_device (s : State) (d e : Device) :
    (raiseHeld d s).device e = { s.device e with heldCount := (s.device e).heldCount + if d = e then 1 else 0 } := by
  by_cases h : e = d
  · subst h; simp [raiseHeld]
  · have h' : ¬ d = e := fun x => h x.symm
    simp [raiseHeld, h, h']

theorem leavePlace_slot (m : Master) (d : Device) (s : State) (n : SlotId) :
    (leavePlace m d s).slot n = s.slot n := by
  simp only [leavePlace, leaveLists_slot]; split <;> rfl

theorem leavePlace_device (m : Master) (d e : Device) (s : State) :
    (leavePlace m d s).device e =
      { s.device e with heldCount := (s.device e).heldCount - if m ∈ s.holdList ∧ d = e then 1 else 0 } := by
  simp only [leavePlace, leaveLists_device]
  by_cases h : m ∈ s.holdList <;> simp [h, lowerHeld_device]

theorem leavePlace_frame (m : Master) (d : Device) (s : State) :
    leavePlace m d s = { s with
      interceptList := s.interceptList.filter fun x => decide (x ≠ m)
      holdList := s.holdList.filter fun x => decide (x ≠ m)
      readyList := s.readyList.filter fun x => decide (x ≠ m)
      cycle := s.cycle.filter fun c => decide (c.master ≠ m)
      devices := (leavePlace m d s).devices } := by
  simp only [leavePlace, leaveLists]; split <;> rfl

/-- An answer changes the channel, the record, the places, the slots and the devices, and nothing else. -/
theorem answerClaim_frame (m : Master) (a : Access) (r : Reason) (x : DataWord) (s : State) :
    answerClaim m a r x s = { s with
      answers := s.answers ++ [{ master := m, reason := r, data := x }]
      claims := s.claims.set m none
      interceptList := s.interceptList.filter fun x => decide (x ≠ m)
      holdList := s.holdList.filter fun x => decide (x ≠ m)
      readyList := s.readyList.filter fun x => decide (x ≠ m)
      cycle := s.cycle.filter fun c => decide (c.master ≠ m)
      slots := (answerClaim m a r x s).slots
      devices := (answerClaim m a r x s).devices } := by
  unfold answerClaim
  rw [unbind_frame]
  simp only [giveAnswer]
  rw [leavePlace_frame]

theorem answerClaim_slot (m : Master) (a : Access) (r : Reason) (x : DataWord) (s : State) (n : SlotId) :
    (answerClaim m a r x s).slot n = slotAfterAnswer s a.binding r n := by
  have h : ∀ k, (giveAnswer m r x (leavePlace m a.device s)).slot k = s.slot k := fun k =>
    leavePlace_slot m a.device s k
  simp only [answerClaim, unbind_slot, slotAfterAnswer, h]

theorem answerClaim_device (m : Master) (a : Access) (r : Reason) (x : DataWord) (s : State) (d : Device) :
    (answerClaim m a r x s).device d = deviceAfterAnswer s m a d := by
  have h : ∀ k, (giveAnswer m r x (leavePlace m a.device s)).slot k = s.slot k := fun k =>
    leavePlace_slot m a.device s k
  have hd : (giveAnswer m r x (leavePlace m a.device s)).device d = (leavePlace m a.device s).device d := rfl
  have hf : freesSlotOf (giveAnswer m r x (leavePlace m a.device s)) a.binding d = freesSlotOf s a.binding d := by
    unfold freesSlotOf
    cases a.binding.slotId <;> simp [h]
  simp only [answerClaim, unbind_device, hd, leavePlace_device, deviceAfterAnswer, hf]

theorem answerClaim_claim (m k : Master) (a : Access) (r : Reason) (x : DataWord) (s : State) :
    (answerClaim m a r x s).claim k = if k = m then none else s.claim k := by
  rw [answerClaim_frame]
  exact vector_set_getElem s.claims m k none

/-! ## Claims of a device -/

theorem boundTo_iff (s : State) (d : Device) (m : Master) :
    boundTo s d m = true ↔ ∃ c, s.claim m = some c ∧ c.access.device = d := by
  unfold boundTo
  cases s.claim m <;> simp

/-- A device has work when a ready claim or the active claim is bound to it. -/
theorem hasWork_iff (s : State) (d : Device) : hasWork s d = true ↔
    ∃ m c, (m ∈ s.readyList ∨ s.cycle.map DeviceCycle.master = some m) ∧ s.claim m = some c ∧ c.access.device = d := by
  have ha : ∀ m, m ∈ activeMaster s ↔ s.cycle.map DeviceCycle.master = some m := by
    intro m; unfold activeMaster; cases s.cycle <;> simp [eq_comm]
  simp only [hasWork, List.any_eq_true, List.mem_append, boundTo_iff, ha]
  constructor
  · rintro ⟨m, hm, c, hc, hd⟩
    exact ⟨m, c, hm.symm, hc, hd⟩
  · rintro ⟨m, c, hm, hc, hd⟩
    exact ⟨m, hm.symm, c, hc, hd⟩

end Sys2Proof.Machine
end

