-- ==== Sys2Proof/Laws/Devices.lean ====
section
/-! SUPPORT. The devices and the placing of claims: what a wake, a release, an entry to ON and each way of the
residency step do, as equations and field by field. -/

namespace Sys2Proof.Machine

theorem vector_set_same {α : Type} {n : Nat} (v : Vector α n) (i : Fin n) (x y : α) :
    (v.set i x).set i y = v.set i y := by
  apply vector_ext_fin; intro j
  rw [vector_set_getElem, vector_set_getElem, vector_set_getElem]; split <;> rfl

theorem setDevice_setDevice (s : State) (d : Device) (r q : DeviceRecord) :
    (s.setDevice d r).setDevice d q = s.setDevice d q := by
  simp only [State.setDevice, vector_set_same]

/-! ## Wakes and releases -/

theorem startWake_device (s : State) (d e : Device) : (startWake d s).device e =
    if e = d then { s.device d with
      residency := .waking, pen := true, wakeTimer := Timer.load (s.device d).wakeTime, idleTimer := none,
      faultCause := .none } else s.device e :=
  device_setDevice s d e _

theorem powerOff_device (s : State) (d e : Device) : (powerOff d s).device e =
    if e = d then { s.device d with residency := .off, pen := false, wakeTimer := none, idleTimer := none }
    else s.device e :=
  device_setDevice s d e _

/-- Entering ON changes the device, and moves its held claims to the tail of the ready list (R63, R65, R84, R85). -/
theorem enterOn_eq (d : Device) (s : State) : enterOn d s = { s with
    claims := (enterOn d s).claims
    holdList := s.holdList.filter fun m => !boundTo s d m
    readyList := s.readyList ++ s.holdList.filter (boundTo s d)
    devices := s.devices.set d { s.device d with
      residency := .on, wakeTimer := none, idleTimer := Timer.load (s.device d).idleLimit, heldCount := 0 } } := by
  have h : (clearHeld d (s.setDevice d { s.device d with
      residency := .on, wakeTimer := none, idleTimer := Timer.load (s.device d).idleLimit })) =
      s.setDevice d { s.device d with
        residency := .on, wakeTimer := none, idleTimer := Timer.load (s.device d).idleLimit, heldCount := 0 } := by
    rw [clearHeld, setDevice_setDevice, device_setDevice, if_pos rfl]
  unfold enterOn releaseHeld
  rw [h]; rfl

theorem enterOn_claim (d : Device) (s : State) (m : Master) : (enterOn d s).claim m =
    if m ∈ s.holdList ∧ boundTo s d m = true then (s.claim m).map Claim.released else s.claim m := by
  have h : (enterOn d s).claim m = if m ∈ s.holdList.filter (boundTo s d) then Option.map Claim.released (s.claim m)
      else s.claim m := by
    rw [claim_def]; simp only [enterOn, releaseHeld, mapTable_getElem]; rfl
  rw [h]; simp only [List.mem_filter]

theorem enterOn_device (d e : Device) (s : State) : (enterOn d s).device e =
    if e = d then { s.device d with
      residency := .on, wakeTimer := none, idleTimer := Timer.load (s.device d).idleLimit, heldCount := 0 }
    else s.device e := by
  rw [enterOn_eq]; exact vector_set_getElem _ _ _ _

@[simp] theorem enterOn_slot (d : Device) (s : State) (n : SlotId) : (enterOn d s).slot n = s.slot n := by
  rw [enterOn_eq]; rfl

/-! ## The end of a park (R69) -/

/-- The end of a park changes the device and its power pulse alone. -/
theorem endPark_eq (d : Device) (s : State) :
    endPark d s = { s with devices := (endPark d s).devices, penPulses := (endPark d s).penPulses } := by
  unfold endPark; split
  · split <;> rfl
  · rfl

theorem endPark_goes_on {d : Device} {s : State} (h : hasWork s d = true) : endPark d s = s := by
  simp [endPark, h]

theorem endPark_off {d : Device} {s : State} (hp : (s.device d).residency = .parking) (h : hasWork s d = false)
    (h0 : (s.device d).heldCount = 0) : endPark d s = powerOff d s := by
  simp [endPark, hp, h, h0]

theorem endPark_again {d : Device} {s : State} (hp : (s.device d).residency = .parking) (h : hasWork s d = false)
    (h0 : (s.device d).heldCount ≠ 0) : endPark d s =
      { startWake d s with penPulses := s.penPulses ++ [d] } := by
  simp only [endPark, hp, h, h0, true_and, if_true, if_false]
  unfold startWake powerOff
  simp only [State.setDevice, vector_set_same, State.device, Fin.getElem_fin, Vector.getElem_set_self]

theorem endPark_other {d : Device} {s : State} (hp : (s.device d).residency ≠ .parking) : endPark d s = s := by
  simp [endPark, hp]

/-! ## The residency step (R37, R81, R82) -/

theorem enterHold_device (m : Master) (a : Access) (s : State) (d : Device) : (enterHold m a s).device d =
    { s.device d with heldCount := (s.device d).heldCount + if a.device = d then 1 else 0 } :=
  raiseHeld_device s a.device d

@[simp] theorem enterHold_slot (m : Master) (a : Access) (s : State) (n : SlotId) :
    (enterHold m a s).slot n = s.slot n := rfl

theorem enterHold_claim (m k : Master) (a : Access) (s : State) : (enterHold m a s).claim k =
    if k = m then some { access := a, phase := .held, timer := Timer.load s.holdLimit, verdictData := none }
    else s.claim k :=
  vector_set_getElem s.claims m k _

theorem enterReady_claim (m k : Master) (a : Access) (s : State) : (enterReady m a s).claim k =
    if k = m then some { access := a, phase := .ready, timer := none, verdictData := none } else s.claim k :=
  vector_set_getElem s.claims m k _

theorem enterIntercept_claim (m k : Master) (a : Access) (s : State) : (enterIntercept m a s).claim k =
    if k = m then some { access := a, phase := .intercept, timer := Timer.load s.interceptLimit, verdictData := none }
    else s.claim k :=
  vector_set_getElem s.claims m k _

theorem residencyStep_on {m : Master} {a : Access} {s : State} (h : (s.device a.device).residency = .on) :
    residencyStep m a s = enterReady m a s := by
  simp [residencyStep, h]

theorem residencyStep_hold {m : Master} {a : Access} {s : State}
    (h : (s.device a.device).residency = .waking ∨ (s.device a.device).residency = .parking) :
    residencyStep m a s = enterHold m a s := by
  rcases h with h | h <;> simp [residencyStep, h]

theorem residencyStep_wake {m : Master} {a : Access} {s : State} (h : (s.device a.device).residency = .off)
    (hw : (s.device a.device).autoWake = true) :
    residencyStep m a s = enterHold m a (startWake a.device s) := by
  simp [residencyStep, h, hw]

theorem residencyStep_asleep {m : Master} {a : Access} {s : State} (h : (s.device a.device).residency = .off)
    (hw : (s.device a.device).autoWake = false) : residencyStep m a s = answerClaim m a .asleep 0#32 s := by
  simp [residencyStep, h, hw]

theorem residencyStep_fault {m : Master} {a : Access} {s : State} (h : (s.device a.device).residency = .fault) :
    residencyStep m a s = answerClaim m a .deviceFault 0#32 s := by
  simp [residencyStep, h]

/-- The residency step ends in one of four ways. -/
theorem residencyStep_cases (m : Master) (a : Access) (s : State) :
    ((s.device a.device).residency = .on ∧ residencyStep m a s = enterReady m a s) ∨
    (((s.device a.device).residency = .waking ∨ (s.device a.device).residency = .parking) ∧
      residencyStep m a s = enterHold m a s) ∨
    ((s.device a.device).residency = .off ∧ residencyStep m a s = enterHold m a (startWake a.device s)) ∨
    (((s.device a.device).residency = .off ∨ (s.device a.device).residency = .fault ∨
        (s.device a.device).residency = .absent) ∧
      ∃ r : Reason, r.touches = false ∧ residencyStep m a s = answerClaim m a r 0#32 s) := by
  cases h : (s.device a.device).residency with
  | on => exact Or.inl ⟨rfl, residencyStep_on h⟩
  | waking => exact Or.inr (Or.inl ⟨Or.inl rfl, residencyStep_hold (Or.inl h)⟩)
  | parking => exact Or.inr (Or.inl ⟨Or.inr rfl, residencyStep_hold (Or.inr h)⟩)
  | off =>
    cases hw : (s.device a.device).autoWake
    · exact Or.inr (Or.inr (Or.inr ⟨Or.inl rfl, .asleep, rfl, residencyStep_asleep h hw⟩))
    · exact Or.inr (Or.inr (Or.inl ⟨rfl, residencyStep_wake h hw⟩))
  | fault => exact Or.inr (Or.inr (Or.inr ⟨Or.inr (Or.inl rfl), .deviceFault, rfl, residencyStep_fault h⟩))
  | absent =>
    exact Or.inr (Or.inr (Or.inr ⟨Or.inr (Or.inr rfl), .asleep, rfl, by simp [residencyStep, h]⟩))

/-! ## Answers that leave no list -/

theorem filter_ne_of_notMem {α : Type} [DecidableEq α] {l : List α} {m : α} (h : m ∉ l) :
    (l.filter fun x => decide (x ≠ m)) = l := by
  rw [List.filter_eq_self]; intro x hx; simp; rintro rfl; exact h hx

/-- A claim that stands in no list and does not hold the bus is answered without moving any other claim. -/
theorem answerClaim_nowhere {m : Master} {s : State} (a : Access) (r : Reason) (x : DataWord)
    (hi : m ∉ s.interceptList) (hh : m ∉ s.holdList) (hr : m ∉ s.readyList)
    (hc : s.cycle.map DeviceCycle.master ≠ some m) : answerClaim m a r x s = { s with
      answers := s.answers ++ [{ master := m, reason := r, data := x }]
      claims := s.claims.set m none
      slots := (answerClaim m a r x s).slots
      devices := (answerClaim m a r x s).devices } := by
  have h := answerClaim_frame m a r x s
  rw [filter_ne_of_notMem hi, filter_ne_of_notMem hh, filter_ne_of_notMem hr] at h
  have hcy : (s.cycle.filter fun c => decide (c.master ≠ m)) = s.cycle := by
    cases hq : s.cycle with
    | none => rfl
    | some c => simp [hq] at hc; simp [Option.filter, hc]
  rw [hcy] at h
  exact h

theorem answerClaim_nowhere_device {m : Master} {s : State} (a : Access) (r : Reason) (x : DataWord)
    (hh : m ∉ s.holdList) (d : Device) : (answerClaim m a r x s).device d =
      { s.device d with refCount := (s.device d).refCount - if freesSlotOf s a.binding d then 1 else 0 } := by
  rw [answerClaim_device, deviceAfterAnswer]; simp [hh]

end Sys2Proof.Machine
end

