-- ==== Sys2Proof/Laws/Directory.lean ====
section
/-! SUPPORT. The directory: counting slots under a write of one slot and under a rewrite of all, and the lookup. -/

namespace Sys2Proof.Machine

/-! ## Counting -/

theorem countP_set_add {α : Type} (p : α → Bool) (l : List α) (i : Nat) (h : i < l.length) (x : α) :
    (l.set i x).countP p + (if p l[i] then 1 else 0) = l.countP p + (if p x then 1 else 0) := by
  induction l generalizing i with
  | nil => simp at h
  | cons a l ih =>
    cases i with
    | zero => simp only [List.set_cons_zero, List.countP_cons, List.getElem_cons_zero]; omega
    | succ i =>
      have := ih i (by simpa using h)
      simp only [List.set_cons_succ, List.countP_cons, List.getElem_cons_succ]; omega

/-- A write of one slot moves a count by that slot alone. -/
theorem countSlots_set_add (p : Slot → Bool) (v : Vector Slot 64) (n : SlotId) (w : Slot) :
    countSlots p (v.set n w) + (if p v[n] then 1 else 0) = countSlots p v + (if p w then 1 else 0) := by
  have h := countP_set_add p v.toList n.val (by simp) w
  simpa [countSlots, Vector.toList_set] using h

theorem vector_toList_ofFn {α : Type} {n : Nat} (f : Fin n → α) : (Vector.ofFn f).toList = List.ofFn f := by
  apply List.ext_getElem <;> simp

theorem vector_toList_eq_ofFn {α : Type} {n : Nat} (v : Vector α n) : v.toList = List.ofFn fun i => v[i] := by
  apply List.ext_getElem <;> simp

/-- A count over the slots, slot by slot. -/
theorem countSlots_eq (p : Slot → Bool) (v : Vector Slot 64) : countSlots p v = allSlots.countP fun n => p v[n] := by
  rw [countSlots, vector_toList_eq_ofFn, List.ofFn_eq_map, List.countP_map]; rfl

/-- Two counts are equal when the tests agree on every slot. -/
theorem countSlots_congr {p q : Slot → Bool} {v w : Vector Slot 64} (h : ∀ n : SlotId, p v[n] = q w[n]) :
    countSlots p v = countSlots q w := by
  simp only [countSlots_eq, h]

theorem countP_add_of_split {α : Type} {p q r : α → Bool} (l : List α)
    (h : ∀ x ∈ l, ((if p x then 1 else 0) + (if q x then 1 else 0) : Nat) = if r x then 1 else 0) :
    l.countP p + l.countP q = l.countP r := by
  induction l with
  | nil => rfl
  | cons a l ih =>
    have ha := h a (by simp)
    have hl := ih fun x hx => h x (List.mem_cons_of_mem _ hx)
    simp only [List.countP_cons]; omega

/-- A count splits into two. -/
theorem countSlots_split {p q r : Slot → Bool} {u v w : Vector Slot 64}
    (h : ∀ n : SlotId, ((if p u[n] then 1 else 0) + (if q v[n] then 1 else 0) : Nat) = if r w[n] then 1 else 0) :
    countSlots p u + countSlots q v = countSlots r w := by
  simp only [countSlots_eq]
  exact countP_add_of_split _ fun n _ => h n

/-! ## References (R55) -/

/-- Whether a slot refers to a device. -/
def refersTo (d : Device) (w : Slot) : Bool := decide (w.state ≠ .free ∧ w.device = d)

/-- The fallback's reference to a device. -/
def fallbackRefers (s : State) (d : Device) : Nat := if s.missPolicy = .fallback ∧ s.fallbackDevice = d then 1 else 0

theorem references_eq (s : State) (d : Device) : references s d = countSlots (refersTo d) s.slots + fallbackRefers s d := rfl

/-- References depend on the slots and the fallback setting alone. -/
theorem references_congr {s t : State} (d : Device) (hs : ∀ n, refersTo d (t.slot n) = refersTo d (s.slot n))
    (hp : t.missPolicy = s.missPolicy) (hf : t.fallbackDevice = s.fallbackDevice) :
    references t d = references s d := by
  rw [references_eq, references_eq, fallbackRefers, fallbackRefers, hp, hf, countSlots_congr hs]

/-- A write of one slot moves the references by that slot alone. -/
theorem references_setSlot_add (s : State) (n : SlotId) (w : Slot) (d : Device) :
    references (s.setSlot n w) d + (if refersTo d (s.slot n) then 1 else 0) =
      references s d + (if refersTo d w then 1 else 0) := by
  have h : countSlots (refersTo d) (s.setSlot n w).slots + (if refersTo d (s.slot n) then 1 else 0) =
      countSlots (refersTo d) s.slots + (if refersTo d w then 1 else 0) :=
    countSlots_set_add (refersTo d) s.slots n w
  have hf : fallbackRefers (s.setSlot n w) d = fallbackRefers s d := rfl
  simp only [references_eq, hf]
  omega

/-- A slot that leaves FREE refers to its device from then on. -/
theorem references_fill {s : State} {n : SlotId} {w : Slot} (hf : (s.slot n).state = .free) (hw : w.state ≠ .free)
    (d : Device) : references (s.setSlot n w) d = references s d + if d = w.device then 1 else 0 := by
  have h := references_setSlot_add s n w d
  by_cases hd : d = w.device
  · subst hd; simp [refersTo, hf, hw] at h ⊢; exact h
  · have hd' : ¬ w.device = d := fun e => hd e.symm
    simp [refersTo, hf, hd, hd'] at h ⊢; exact h

/-- A slot that becomes FREE gives up its reference. -/
theorem references_free {s : State} {n : SlotId} {w : Slot} (hf : (s.slot n).state ≠ .free) (hw : w.state = .free)
    (d : Device) : references (s.setSlot n w) d = references s d - if d = (s.slot n).device then 1 else 0 := by
  have h := references_setSlot_add s n w d
  by_cases hd : d = (s.slot n).device
  · subst hd; simp [refersTo, hf, hw] at h ⊢; omega
  · have hd' : ¬ (s.slot n).device = d := fun e => hd e.symm
    simp [refersTo, hw, hd, hd'] at h ⊢; exact h

/-- A write that leaves a slot's state FREE or not FREE, and its device, changes no reference. -/
theorem references_keep {s : State} {n : SlotId} {w : Slot} (hf : (w.state = .free ↔ (s.slot n).state = .free))
    (hw : w.device = (s.slot n).device) (d : Device) : references (s.setSlot n w) d = references s d := by
  have h := references_setSlot_add s n w d
  have : refersTo d w = refersTo d (s.slot n) := by simp only [refersTo, hw, ne_eq, hf]
  rw [this] at h; omega

/-- References after several slots have become FREE in one event. -/
theorem references_dropped {s t : State} {p : Slot → Bool} {d : Device}
    (hp : t.missPolicy = s.missPolicy) (hf : t.fallbackDevice = s.fallbackDevice)
    (h : ∀ n, ((if refersTo d (t.slot n) then 1 else 0) +
      (if p (s.slot n) && decide ((s.slot n).device = d) then 1 else 0) : Nat) =
      if refersTo d (s.slot n) then 1 else 0) :
    references t d = references s d - countSlots (fun w => p w && decide (w.device = d)) s.slots := by
  have hc := countSlots_split (p := refersTo d) (q := fun w => p w && decide (w.device = d)) (r := refersTo d)
    (u := t.slots) (v := s.slots) (w := s.slots) h
  have hr : fallbackRefers t d = fallbackRefers s d := by rw [fallbackRefers, fallbackRefers, hp, hf]
  simp only [references_eq, hr]
  omega

/-! ## The lookup (R20) -/

theorem inView_iff (w : Slot) : w.inView = true ↔ w.state = .live ∨ w.state = .marked := by
  simp [Slot.inView]

theorem contains_iff (w : Slot) (a : Address) :
    w.contains a = true ↔ w.base.toNat ≤ a.toNat ∧ a.toNat ≤ w.base.toNat + 2 ^ w.size - 1 := by
  simp [Slot.contains]

theorem shares_iff (v w : Slot) : v.shares w = true ↔
    v.base.toNat ≤ w.base.toNat + 2 ^ w.size - 1 ∧ w.base.toNat ≤ v.base.toNat + 2 ^ v.size - 1 := by
  simp [Slot.shares]

theorem conflicts_iff (v w : Slot) : v.conflicts w = true ↔ v.precedence = w.precedence ∧ v.shares w = true := by
  simp [Slot.conflicts]

theorem shares_comm (v w : Slot) : v.shares w = w.shares v := by
  simp [Slot.shares, Bool.and_comm]

theorem conflicts_comm (v w : Slot) : v.conflicts w = w.conflicts v := by
  simp [Slot.conflicts, shares_comm, eq_comm]

theorem mem_candidates (s : State) (a : Address) (n : SlotId) :
    n ∈ candidates s a ↔ (s.slot n).inView = true ∧ (s.slot n).contains a = true := by
  simp [candidates, allSlots]

theorem higher_isSome (s : State) (b : Option SlotId) (n : SlotId) : (higher s b n).isSome = true := by
  cases b <;> simp [higher]; split <;> rfl

theorem foldl_higher_isSome (s : State) (l : List SlotId) (b : Option SlotId) (h : b.isSome = true) :
    (l.foldl (higher s) b).isSome = true := by
  induction l generalizing b with
  | nil => exact h
  | cons n l ih => exact ih _ (higher_isSome s b n)

/-- The winner of a list is in it (or was there before) and no window of the list is higher. -/
theorem foldl_higher_spec (s : State) (l : List SlotId) (b : Option SlotId) (k : SlotId)
    (h : l.foldl (higher s) b = some k) :
    (k ∈ l ∨ b = some k) ∧ (∀ n ∈ l, (s.slot n).precedence ≤ (s.slot k).precedence) ∧
      (∀ j, b = some j → (s.slot j).precedence ≤ (s.slot k).precedence) := by
  induction l generalizing b with
  | nil => simp at h; subst h; simp
  | cons n l ih =>
    obtain ⟨h1, h2, h3⟩ := ih _ h
    have hb : ∀ j, higher s b n = some j → (j = n ∨ b = some j) := by
      intro j hj
      cases b with
      | none => simp [higher] at hj; exact Or.inl hj.symm
      | some i => simp only [higher] at hj; split at hj <;> simp_all
    obtain ⟨j, hj⟩ := Option.isSome_iff_exists.mp (higher_isSome s b n)
    have hjk := h3 j hj
    have hn : (s.slot n).precedence ≤ (s.slot j).precedence := by
      cases b with
      | none => simp [higher] at hj; subst hj; exact le_refl _
      | some i =>
        simp only [higher] at hj
        split at hj
        · simp at hj; subst hj; exact le_refl _
        · simp at hj; subst hj; rename_i hlt; exact not_lt.mp hlt
    have hi : ∀ i, b = some i → (s.slot i).precedence ≤ (s.slot j).precedence := by
      rintro i rfl
      simp only [higher] at hj
      split at hj
      · simp at hj; subst hj; rename_i hlt; exact le_of_lt hlt
      · simp at hj; subst hj; exact le_refl _
    refine ⟨?_, ?_, ?_⟩
    · rcases h1 with h1 | h1
      · exact Or.inl (List.mem_cons_of_mem _ h1)
      · rcases hb k h1 with rfl | h1
        · exact Or.inl (by simp)
        · exact Or.inr h1
    · intro m hm
      rcases List.mem_cons.mp hm with rfl | hm
      · exact le_trans hn hjk
      · exact h2 m hm
    · intro i hi'; exact le_trans (hi i hi') hjk

/-- A lookup misses exactly when there is no candidate. -/
theorem lookup_none_iff (s : State) (a : Address) : lookup s a = none ↔ candidates s a = [] := by
  unfold lookup
  cases h : candidates s a with
  | nil => simp
  | cons n l =>
    simp only [List.foldl_cons, reduceCtorEq, iff_false]
    intro hn
    have := foldl_higher_isSome s l (higher s none n) (higher_isSome s none n)
    rw [hn] at this; simp at this

/-- The window a lookup finds is a candidate, and no candidate is higher. -/
theorem lookup_some {s : State} {a : Address} {n : SlotId} (h : lookup s a = some n) :
    n ∈ candidates s a ∧ ∀ m ∈ candidates s a, (s.slot m).precedence ≤ (s.slot n).precedence := by
  obtain ⟨h1, h2, _⟩ := foldl_higher_spec s _ _ _ h
  exact ⟨by simpa using h1, h2⟩

/-- A lookup depends on the slots alone. -/
theorem lookup_congr {s t : State} (h : ∀ n, t.slot n = s.slot n) (a : Address) : lookup t a = lookup s a := by
  have hc : candidates t a = candidates s a := by simp [candidates, h]
  have hh : higher t = higher s := by funext b n; cases b <;> simp [higher, h]
  rw [lookup, lookup, hc, hh]

end Sys2Proof.Machine
end

