-- ==== Sys2Proof/Laws/Answers.lean ====
section
/-! SUPPORT. Answers: that the reference law survives an answer, and what the answers to several claims in one event
do (R46, R48, R64, R71), as one lemma per part of the state. -/

namespace Sys2Proof.Machine

/-! ## References under answers -/

theorem answerClaim_references (m : Master) (a : Access) (r : Reason) (x : DataWord) (s : State) (d : Device) :
    references (answerClaim m a r x s) d = references s d - if freesSlotOf s a.binding d then 1 else 0 := by
  have hp : (answerClaim m a r x s).missPolicy = s.missPolicy := by rw [answerClaim_frame]
  have hf : (answerClaim m a r x s).fallbackDevice = s.fallbackDevice := by rw [answerClaim_frame]
  have hs : ∀ n, (answerClaim m a r x s).slot n = slotAfterAnswer s a.binding r n := answerClaim_slot m a r x s
  cases hb : a.binding.slotId with
  | none =>
    have h0 : freesSlotOf s a.binding d = false := by simp [freesSlotOf, hb]
    rw [references_congr d (s := s) (fun n => by rw [hs, slotAfterAnswer, hb]; simp) hp hf, h0]; simp
  | some k =>
    by_cases hfree : (s.slot k).state = .draining ∧ (s.slot k).bound ≤ 1
    · have h := references_free (s := s) (n := k) (w := (s.slot k).answered r) (by rw [hfree.1]; simp)
        (by simp [Slot.answered, hfree]) d
      rw [references_congr d (s := s.setSlot k ((s.slot k).answered r)) (fun n => ?_) hp hf, h]
      · simp [freesSlotOf, hb, hfree, eq_comm]
      · rw [hs, slotAfterAnswer, hb, slot_setSlot]
        by_cases hn : n = k
        · subst hn; simp
        · have : ¬ k = n := fun e => hn e.symm
          simp [hn, this]
    · have h0 : freesSlotOf s a.binding d = false := by simp [freesSlotOf, hb]; intro h1 h2; exact absurd ⟨h1, h2⟩ hfree
      rw [references_congr d (s := s) (fun n => ?_) hp hf, h0]
      · simp
      · rw [hs, slotAfterAnswer, hb]
        by_cases hn : n = k
        · subst hn; simp [Slot.answered, hfree, refersTo]
        · have : ¬ k = n := fun e => hn e.symm
          simp [this]

/-- The reference law survives an answer (R13, R55). -/
theorem answerClaim_referenceLaw (m : Master) (a : Access) (r : Reason) (x : DataWord) {s : State}
    (h : ReferenceLaw s) : ReferenceLaw (answerClaim m a r x s) := by
  intro d
  rw [answerClaim_references, answerClaim_device, deviceAfterAnswer, h d]

/-! ## Answers to several claims -/

theorem answerMaster_some {s : State} {m : Master} {c : Claim} (r : Reason) (h : s.claim m = some c) :
    answerMaster r s m = answerClaim m c.access r 0#32 s := by
  simp [answerMaster, h]

theorem answerAll_cons (m : Master) (ms : List Master) (r : Reason) (s : State) :
    answerAll (m :: ms) r s = answerAll ms r (answerMaster r s m) := rfl

theorem answerAll_referenceLaw (ms : List Master) (r : Reason) {s : State} (h : ReferenceLaw s) :
    ReferenceLaw (answerAll ms r s) := by
  induction ms generalizing s with
  | nil => exact h
  | cons m ms ih =>
    rw [answerAll_cons]; apply ih
    unfold answerMaster; split
    · exact answerClaim_referenceLaw _ _ _ _ h
    · exact h

theorem answerMaster_claim (r : Reason) (s : State) (m k : Master) :
    (answerMaster r s m).claim k = if k = m then none else s.claim k := by
  unfold answerMaster; split
  · exact answerClaim_claim ..
  · rename_i h; split
    · rename_i e; rw [e, h]
    · rfl

theorem answerAll_claim (ms : List Master) (r : Reason) (s : State) (k : Master) :
    (answerAll ms r s).claim k = if k ∈ ms then none else s.claim k := by
  induction ms generalizing s with
  | nil => simp [answerAll]
  | cons m ms ih =>
    rw [answerAll_cons, ih, answerMaster_claim]
    by_cases h : k ∈ ms
    · simp [h]
    · by_cases hm : k = m <;> simp [h, hm]

/-- The claims of the given masters are all in flight. -/
def AllInFlight (s : State) (ms : List Master) : Prop := ∀ m ∈ ms, ∃ c, s.claim m = some c

theorem allInFlight_tail {s : State} {m : Master} {ms : List Master} {r : Reason} (hn : (m :: ms).Nodup)
    (h : AllInFlight s (m :: ms)) : AllInFlight (answerMaster r s m) ms := by
  intro k hk
  obtain ⟨c, hc⟩ := h k (List.mem_cons_of_mem _ hk)
  refine ⟨c, ?_⟩
  have : k ≠ m := by rintro rfl; exact (List.nodup_cons.mp hn).1 hk
  rw [answerMaster_claim, if_neg this, hc]

theorem filter_filter_cons {α : Type} [DecidableEq α] (l : List α) (m : α) (ms : List α) :
    ((l.filter fun x => decide (x ≠ m)).filter fun x => decide (x ∉ ms)) = l.filter fun x => decide (x ∉ m :: ms) := by
  rw [List.filter_filter]
  apply List.filter_congr
  intro x _
  by_cases h1 : x = m <;> by_cases h2 : x ∈ ms <;> simp [h1, h2]

/-- Answers to several claims change the channels, the records, the places, the slots and the devices, and nothing
else. -/
theorem answerAll_frame (ms : List Master) (r : Reason) (s : State) (hn : ms.Nodup) (h : AllInFlight s ms) :
    answerAll ms r s = { s with
      answers := s.answers ++ answersOf ms r
      claims := (answerAll ms r s).claims
      interceptList := s.interceptList.filter fun x => decide (x ∉ ms)
      holdList := s.holdList.filter fun x => decide (x ∉ ms)
      readyList := s.readyList.filter fun x => decide (x ∉ ms)
      cycle := s.cycle.filter fun c => decide (c.master ∉ ms)
      slots := (answerAll ms r s).slots
      devices := (answerAll ms r s).devices } := by
  induction ms generalizing s with
  | nil =>
    have hc : (s.cycle.filter fun c => decide (c.master ∉ ([] : List Master))) = s.cycle := by
      cases s.cycle <;> rfl
    rw [hc]
    simp [answerAll, answersOf]
  | cons m ms ih =>
    have ht := ih (answerMaster r s m) (List.nodup_cons.mp hn).2 (allInFlight_tail hn h)
    obtain ⟨c, hc⟩ := h m (by simp)
    rw [answerMaster_some r hc] at ht
    rw [answerAll_cons, answerMaster_some r hc]
    have hf := answerClaim_frame m c.access r 0#32 s
    have e1 : (answerClaim m c.access r 0#32 s).interceptList = s.interceptList.filter fun x => decide (x ≠ m) := by rw [hf]
    have e2 : (answerClaim m c.access r 0#32 s).holdList = s.holdList.filter fun x => decide (x ≠ m) := by rw [hf]
    have e3 : (answerClaim m c.access r 0#32 s).readyList = s.readyList.filter fun x => decide (x ≠ m) := by rw [hf]
    have e4 : (answerClaim m c.access r 0#32 s).cycle = s.cycle.filter fun c => decide (c.master ≠ m) := by rw [hf]
    have e5 : (answerClaim m c.access r 0#32 s).answers = s.answers ++ [{ master := m, reason := r, data := 0#32 }] := by
      rw [hf]
    have e6 : ((s.cycle.filter fun c => decide (c.master ≠ m)).filter fun c => decide (c.master ∉ ms)) =
        s.cycle.filter fun c => decide (c.master ∉ m :: ms) := by
      cases s.cycle with
      | none => rfl
      | some y => by_cases h1 : y.master = m <;> by_cases h2 : y.master ∈ ms <;> simp [Option.filter, h1, h2]
    rw [ht, e1, e2, e3, e4, e5, filter_filter_cons, filter_filter_cons, filter_filter_cons, e6, List.append_assoc]
    generalize answerAll ms r (answerClaim m c.access r 0#32 s) = v
    rw [hf]
    simp [answersOf]

theorem slotOf_congr {s t : State} {m : Master} (h : t.claim m = s.claim m) : t.slotOf m = s.slotOf m := by
  rw [State.slotOf, State.slotOf, h]

theorem boundAmong_congr {s t : State} {ms : List Master} (h : ∀ m ∈ ms, t.claim m = s.claim m) (n : SlotId) :
    boundAmong t ms n = boundAmong s ms n := by
  unfold boundAmong
  apply List.countP_congr
  intro m hm; rw [slotOf_congr (h m hm)]

/-- The slots after answers none of which is DONE or SUPPLIED. -/
theorem answerAll_slot (ms : List Master) (r : Reason) (s : State) (n : SlotId) (hr : r.touches = false)
    (hn : ms.Nodup) (h : AllInFlight s ms) : (answerAll ms r s).slot n = slotAfterAnswers s ms n := by
  induction ms generalizing s with
  | nil => simp [answerAll, slotAfterAnswers, boundAmong]
  | cons m ms ih =>
    obtain ⟨c, hc⟩ := h m (by simp)
    rw [answerAll_cons, ih _ (List.nodup_cons.mp hn).2 (allInFlight_tail hn h)]
    have hb : boundAmong (answerMaster r s m) ms n = boundAmong s ms n := by
      apply boundAmong_congr
      intro k hk
      have : k ≠ m := by rintro rfl; exact (List.nodup_cons.mp hn).1 hk
      rw [answerMaster_claim, if_neg this]
    have hso : s.slotOf m = c.access.binding.slotId := by simp [State.slotOf, hc]
    have hk : boundAmong s (m :: ms) n = boundAmong s ms n + if c.access.binding.slotId = some n then 1 else 0 := by
      simp [boundAmong, List.countP_cons, hso]
    rw [answerMaster_some r hc] at hb ⊢
    simp only [slotAfterAnswers, hb, hk, answerClaim_slot, slotAfterAnswer]
    by_cases hit : c.access.binding.slotId = some n
    · simp only [hit, if_true, Slot.answered, hr, Bool.or_false]
      by_cases hd : (s.slot n).state = .draining
      · by_cases hle : (s.slot n).bound ≤ 1
        · have h2 : (s.slot n).bound ≤ boundAmong s ms n + 1 := by omega
          have h3 : (s.slot n).bound - 1 - boundAmong s ms n = (s.slot n).bound - (boundAmong s ms n + 1) := by omega
          simp [hd, hle, h2]
        · have h3 : (s.slot n).bound - 1 - boundAmong s ms n = (s.slot n).bound - (boundAmong s ms n + 1) := by omega
          have h4 : (0 < boundAmong s ms n ∧ (s.slot n).bound ≤ boundAmong s ms n + 1) ↔
              (s.slot n).bound ≤ boundAmong s ms n + 1 := by omega
          simp [hd, hle, h3, h4]
      · have h3 : (s.slot n).bound - 1 - boundAmong s ms n = (s.slot n).bound - (boundAmong s ms n + 1) := by omega
        simp [hd, h3]
    · simp [hit]

/-- The devices after answers: the parameters, residencies and timers stay. -/
theorem answerAll_device (ms : List Master) (r : Reason) (s : State) (d : Device) (hn : ms.Nodup)
    (h : AllInFlight s ms) : ∃ k, (answerAll ms r s).device d = { s.device d with
      refCount := k
      heldCount := (s.device d).heldCount - ms.countP fun m => decide (m ∈ s.holdList ∧ s.deviceOf m = some d) } := by
  induction ms generalizing s with
  | nil => exact ⟨(s.device d).refCount, by simp [answerAll]⟩
  | cons m ms ih =>
    obtain ⟨c, hc⟩ := h m (by simp)
    obtain ⟨k, hk⟩ := ih (answerMaster r s m) (List.nodup_cons.mp hn).2 (allInFlight_tail hn h)
    refine ⟨k, ?_⟩
    rw [answerAll_cons, hk]
    have hcount : (ms.countP fun k => decide (k ∈ (answerMaster r s m).holdList ∧
        (answerMaster r s m).deviceOf k = some d)) =
        ms.countP fun k => decide (k ∈ s.holdList ∧ s.deviceOf k = some d) := by
      apply List.countP_congr
      intro j hj
      have hjm : j ≠ m := by rintro rfl; exact (List.nodup_cons.mp hn).1 hj
      have hcl : (answerMaster r s m).claim j = s.claim j := by rw [answerMaster_claim, if_neg hjm]
      have hl : (answerMaster r s m).holdList = s.holdList.filter fun x => decide (x ≠ m) := by
        rw [answerMaster_some r hc, answerClaim_frame]
      simp [hl, hjm, State.deviceOf, hcl]
    have hso : s.deviceOf m = some c.access.device := by simp [State.deviceOf, hc]
    rw [hcount, answerMaster_some r hc, answerClaim_device, deviceAfterAnswer, List.countP_cons]
    simp only [hso, Option.some.injEq, decide_eq_true_eq, Nat.sub_sub, Nat.add_comm]

/-- With the reference law, a device after answers keeps everything but the two counts. -/
theorem answerAll_device_lawful (ms : List Master) (r : Reason) {s : State} (d : Device) (hl : ReferenceLaw s)
    (hn : ms.Nodup) (h : AllInFlight s ms) : (answerAll ms r s).device d = { s.device d with
      refCount := references (answerAll ms r s) d
      heldCount := (s.device d).heldCount - ms.countP fun m => decide (m ∈ s.holdList ∧ s.deviceOf m = some d) } := by
  obtain ⟨k, hk⟩ := answerAll_device ms r s d hn h
  have := answerAll_referenceLaw ms r hl d
  rw [hk] at this ⊢
  simp only at this
  rw [this]

end Sys2Proof.Machine
end

