-- ==== Sys2Proof/Laws/Port.lean ====
section
/-! SUPPORT. The management port and the value encodings: what the command byte of a command sent whole leaves to
the decoder, the range checks of Table 10-2, the multi-byte encodings of R160, and the bits of the flag, status and
option bytes. -/

namespace Sys2Proof.Machine

/-! ## A command sent whole -/

/-- The command byte clears the error fields, discards an unread reply and abandons a command being collected. -/
theorem takeCommandByte_eq (s : State) : takeCommandByte s = { s with
    port := { condition := .idle, orphan := false, collision := false, abandoned := s.port.paramWanted }
    flags := { s.flags with port := s.flags.port || s.port.paramWanted } } := by
  unfold takeCommandByte Port.paramWanted
  cases h : s.port.condition <;> simp [raise, CauseFlags.raise]

@[simp] theorem takeCommandByte_slots (s : State) : (takeCommandByte s).slots = s.slots := by
  rw [takeCommandByte_eq]
@[simp] theorem takeCommandByte_slot (s : State) (n : SlotId) : (takeCommandByte s).slot n = s.slot n := by
  rw [takeCommandByte_eq]; rfl
@[simp] theorem takeCommandByte_devices (s : State) : (takeCommandByte s).devices = s.devices := by
  rw [takeCommandByte_eq]
@[simp] theorem takeCommandByte_device (s : State) (d : Device) : (takeCommandByte s).device d = s.device d := by
  rw [takeCommandByte_eq]; rfl
@[simp] theorem takeCommandByte_claims (s : State) : (takeCommandByte s).claims = s.claims := by
  rw [takeCommandByte_eq]
@[simp] theorem takeCommandByte_claim (s : State) (m : Master) : (takeCommandByte s).claim m = s.claim m := by
  rw [takeCommandByte_eq]; rfl
@[simp] theorem takeCommandByte_markers (s : State) : (takeCommandByte s).markers = s.markers := by
  rw [takeCommandByte_eq]
@[simp] theorem takeCommandByte_marker (s : State) (m : Master) : (takeCommandByte s).marker m = s.marker m := by
  rw [takeCommandByte_eq]; rfl
@[simp] theorem takeCommandByte_missPolicy (s : State) : (takeCommandByte s).missPolicy = s.missPolicy := by
  rw [takeCommandByte_eq]
@[simp] theorem takeCommandByte_fallbackDevice (s : State) :
    (takeCommandByte s).fallbackDevice = s.fallbackDevice := by
  rw [takeCommandByte_eq]
@[simp] theorem takeCommandByte_fallbackWaits (s : State) : (takeCommandByte s).fallbackWaits = s.fallbackWaits := by
  rw [takeCommandByte_eq]
@[simp] theorem takeCommandByte_interceptList (s : State) : (takeCommandByte s).interceptList = s.interceptList := by
  rw [takeCommandByte_eq]
@[simp] theorem takeCommandByte_holdList (s : State) : (takeCommandByte s).holdList = s.holdList := by
  rw [takeCommandByte_eq]
@[simp] theorem takeCommandByte_readyList (s : State) : (takeCommandByte s).readyList = s.readyList := by
  rw [takeCommandByte_eq]
@[simp] theorem takeCommandByte_cycle (s : State) : (takeCommandByte s).cycle = s.cycle := by
  rw [takeCommandByte_eq]
@[simp] theorem takeCommandByte_cyclesBegun (s : State) : (takeCommandByte s).cyclesBegun = s.cyclesBegun := by
  rw [takeCommandByte_eq]
@[simp] theorem takeCommandByte_straps (s : State) : (takeCommandByte s).straps = s.straps := by
  rw [takeCommandByte_eq]
@[simp] theorem takeCommandByte_mask (s : State) : (takeCommandByte s).mask = s.mask := by
  rw [takeCommandByte_eq]
@[simp] theorem takeCommandByte_gate (s : State) : (takeCommandByte s).gate = s.gate := by
  rw [takeCommandByte_eq]
@[simp] theorem takeCommandByte_holdLimit (s : State) : (takeCommandByte s).holdLimit = s.holdLimit := by
  rw [takeCommandByte_eq]
@[simp] theorem takeCommandByte_interceptLimit (s : State) :
    (takeCommandByte s).interceptLimit = s.interceptLimit := by
  rw [takeCommandByte_eq]
@[simp] theorem takeCommandByte_answers (s : State) : (takeCommandByte s).answers = s.answers := by
  rw [takeCommandByte_eq]
@[simp] theorem takeCommandByte_pending (s : State) : (takeCommandByte s).pending = s.pending := by
  rw [takeCommandByte_eq]
@[simp] theorem takeCommandByte_inReset (s : State) : (takeCommandByte s).inReset = s.inReset := by
  rw [takeCommandByte_eq]

@[simp] theorem quiet_boundTo (s : State) (d : Device) : boundTo s.quiet d = boundTo s d := rfl

@[simp] theorem takeCommandByte_boundTo (s : State) (d : Device) : boundTo (takeCommandByte s) d = boundTo s d := by
  funext m; simp [boundTo]

@[simp] theorem quiet_hasWork (s : State) (d : Device) : hasWork s.quiet d = hasWork s d := rfl

@[simp] theorem takeCommandByte_hasWork (s : State) (d : Device) : hasWork (takeCommandByte s) d = hasWork s d := by
  simp [hasWork, activeMaster]

/-- Unless the port is EXECUTING, a command sent whole runs after its command byte. -/
theorem sendWhole_run {s : State} (code : CommandCode) (run : State → State) (h : s.port.busy = false) :
    sendWhole code run s = run (takeCommandByte s) := by
  unfold Port.busy at h
  unfold sendWhole
  split <;> simp_all

/-- The same as an event. -/
theorem event_sendWhole {s : State} (code : CommandCode) (run : State → State) (h : s.inReset = false)
    (hb : s.port.busy = false) : event s (sendWhole code run) = .next (run (takeCommandByte s.quiet)) := by
  rw [event_running _ h, sendWhole_run]; simpa using hb

/-- While the port is EXECUTING the bytes of a command sent whole set error fields and nothing else. -/
theorem sendWhole_busy {s : State} (code : CommandCode) (run : State → State) (h : s.port.busy = true) :
    sendWhole code run s = if code.paramCount = 0 then collide s else orphan (collide s) := by
  unfold Port.busy at h
  unfold sendWhole
  split <;> simp_all

/-! ## Range checks -/

theorem readFin_some {n : Nat} {b : Byte} {i : Fin n} (h : b.toNat = i.val) : readFin n b = some i := by
  simp [readFin, h]

theorem readFin_none {n : Nat} {b : Byte} (h : n ≤ b.toNat) : readFin n b = none := by
  simp [readFin]; omega

theorem readFin_eq_some {n : Nat} {b : Byte} {i : Fin n} : readFin n b = some i ↔ b.toNat = i.val := by
  simp only [readFin]
  split
  · simp [Fin.ext_iff]
  · rename_i h; simp; omega

theorem readFin_eq_none {n : Nat} {b : Byte} : readFin n b = none ↔ n ≤ b.toNat := by
  simp [readFin]

/-- The device options byte: bit 0 auto-wake, bits 2..1 the sense, the rest clear. -/
theorem readDeviceOptions_eq (b : Byte) : readDeviceOptions b =
    if b.toNat < 6 then
      some (decide (b.toNat % 2 = 1), if b.toNat < 2 then .ignore else if b.toNat < 4 then .high else .low)
    else none := by
  revert b; decide

/-- The window options byte: bits 1..0 the watch, bit 2 staged, the rest clear. -/
theorem readWindowOptions_eq (b : Byte) : readWindowOptions b =
    if b.toNat < 8 ∧ b.toNat % 4 ≠ 3 then
      some (if b.toNat % 4 = 0 then .off else if b.toNat % 4 = 1 then .writes else .all, decide (4 ≤ b.toNat))
    else none := by
  revert b; decide

theorem readWatch_eq (b : Byte) : readWatch b =
    if b.toNat < 3 then some (if b.toNat = 0 then .off else if b.toNat = 1 then .writes else .all) else none := by
  revert b; decide

theorem readYesNo_eq (b : Byte) : readYesNo b = if b.toNat < 2 then some (decide (b.toNat = 1)) else none := by
  revert b; decide

theorem readDirection_eq (b : Byte) :
    readDirection b = if b.toNat < 2 then some (if b.toNat = 1 then .write else .read) else none := by
  revert b; decide

theorem readMissPolicy_eq (b : Byte) :
    readMissPolicy b = if b.toNat < 2 then some (if b.toNat = 1 then .fallback else .abort) else none := by
  revert b; decide

/-- The flag byte: bit 0 INTERCEPT to bit 4 PORT, the rest clear. -/
theorem flags_ofByte_eq (b : Byte) : CauseFlags.ofByte b =
    if b.toNat < 32 then
      some { intercept := b.getLsbD 0, fault := b.getLsbD 1, timeout := b.getLsbD 2, done := b.getLsbD 3,
             port := b.getLsbD 4 }
    else none := by
  revert b; decide

/-! ## Encodings of R160 -/

/-- The eight bits of a byte built from bit 7 down to bit 0. -/
theorem byteOfBits_getLsbD (a b c d e f g h : Bool) :
    let x : Byte := BitVec.ofBool a ++ BitVec.ofBool b ++ BitVec.ofBool c ++ BitVec.ofBool d ++ BitVec.ofBool e ++
      BitVec.ofBool f ++ BitVec.ofBool g ++ BitVec.ofBool h
    x.getLsbD 0 = h ∧ x.getLsbD 1 = g ∧ x.getLsbD 2 = f ∧ x.getLsbD 3 = e ∧ x.getLsbD 4 = d ∧ x.getLsbD 5 = c ∧
      x.getLsbD 6 = b ∧ x.getLsbD 7 = a := by
  revert a b c d e f g h; decide

/-- The fields of the status byte (R149). -/
theorem statusFields_bits (s : State) :
    s.statusFields.getLsbD 0 = s.port.paramWanted ∧ s.statusFields.getLsbD 1 = s.port.replyReady ∧
      s.statusFields.getLsbD 2 = s.port.busy ∧ s.statusFields.getLsbD 3 = s.flags.any ∧
      s.statusFields.getLsbD 4 = s.port.orphan ∧ s.statusFields.getLsbD 5 = s.port.collision ∧
      s.statusFields.getLsbD 6 = s.port.abandoned ∧ s.statusFields.getLsbD 7 = false :=
  byteOfBits_getLsbD false s.port.abandoned s.port.collision s.port.orphan s.flags.any s.port.busy s.port.replyReady
    s.port.paramWanted

/-- The bits of a flag byte (Table 10-2). -/
theorem toByte_bits (f : CauseFlags) :
    f.toByte.getLsbD 0 = f.intercept ∧ f.toByte.getLsbD 1 = f.fault ∧ f.toByte.getLsbD 2 = f.timeout ∧
      f.toByte.getLsbD 3 = f.done ∧ f.toByte.getLsbD 4 = f.port ∧ f.toByte.getLsbD 5 = false ∧
      f.toByte.getLsbD 6 = false ∧ f.toByte.getLsbD 7 = false :=
  byteOfBits_getLsbD false false false f.port f.done f.timeout f.fault f.intercept

theorem addressOf_addressBytes (a : Address) :
    addressOf (a.extractLsb' 0 8) (a.extractLsb' 8 8) (a.extractLsb' 16 8) = a := by
  unfold addressOf
  ext i hi
  simp only [BitVec.getElem_append, BitVec.getElem_extractLsb']
  split <;> [skip; split] <;> (rw [← BitVec.getLsbD_eq_getElem]; congr 1; omega)

theorem dataOf_laneBytes (x : DataWord) :
    dataOf (x.extractLsb' 0 8) (x.extractLsb' 8 8) (x.extractLsb' 16 8) (x.extractLsb' 24 8) = x := by
  unfold dataOf
  ext i hi
  simp only [BitVec.getElem_append, BitVec.getElem_extractLsb']
  split <;> [skip; split <;> [skip; split]] <;> (rw [← BitVec.getLsbD_eq_getElem]; congr 1; omega)

theorem deviceOptionsByte_eq (w : Bool) (x : Sense) : deviceOptionsByte w x =
    (if w then 0x01#8 else 0x00#8) +
      (if x = .high then 0x02#8 else if x = .low then 0x04#8 else 0x00#8) := by
  revert w; cases x <;> decide

/-- CRD carries the bytes of the width in the low-order lanes for a READ, and 00h elsewhere (R42, R43, R104). -/
theorem answerData_lane (dir : Direction) (w : Width) (x : DataWord) (i : Nat) (h : i < 4) :
    (answerData dir w x).extractLsb' (8 * i) 8 =
      if dir = .read ∧ i < w.bytes then x.extractLsb' (8 * i) 8 else 0#8 := by
  cases dir
  · cases w <;> simp only [answerData, lowLanes, Width.bytes] <;>
      (have : i = 0 ∨ i = 1 ∨ i = 2 ∨ i = 3 := by omega
       rcases this with rfl | rfl | rfl | rfl <;> simp <;>
         (ext j hj; simp; intro _; (have : j = 0 ∨ j = 1 ∨ j = 2 ∨ j = 3 ∨ j = 4 ∨ j = 5 ∨ j = 6 ∨ j = 7 := by omega);
          rcases this with rfl | rfl | rfl | rfl | rfl | rfl | rfl | rfl <;> decide))
  · simp [answerData]

end Sys2Proof.Machine
end

