-- ==== Sys2Proof/Laws/Arrivals.lean ====
section
/-! SUPPORT. What a claim's arrival comes to (R27, R30 to R33), what a device's fault does to a list of claims
(R64, R71), the ticks of a timer (R58), and every management command as one decoder call. -/

namespace Sys2Proof.Machine

/-! ## Arrival -/

@[simp] theorem quiet_lookup (s : State) (a : Address) : lookup s.quiet a = lookup s a := lookup_congr (fun _ => rfl) a

@[simp] theorem setMarker_lookup (s : State) (m : Master) (b : Bool) (a : Address) :
    lookup (s.setMarker m b) a = lookup s a := lookup_congr (fun _ => rfl) a

@[simp] theorem takeCommandByte_lookup (s : State) (a : Address) : lookup (takeCommandByte s) a = lookup s a :=
  lookup_congr (fun _ => takeCommandByte_slot ..) a

/-- A channel without a claim keeps none when it is emptied again. -/
theorem claims_set_none {s : State} {m : Master} (h : s.claim m = none) : s.claims.set m none = s.claims := by
  apply vector_ext_fin
  intro i
  rw [vector_set_getElem]
  split
  · rename_i e; subst e; exact h.symm
  · rfl

/-- Both ends of an access inside the space decide one window (R31). -/
theorem decideEnds_window {s : State} {a : Address} {w : Width} {n : SlotId} (h : a.toNat + w.bytes - 1 ≤ 0xFFFFFF)
    (h1 : lookup s a = some n) (h2 : lookup s (a + BitVec.ofNat 24 (w.bytes - 1)) = some n) :
    decideEnds s a w = .window n := by
  unfold decideEnds
  rw [if_neg (by omega), h1, h2]
  simp

/-- A claim of a master with none in flight is taken (R27). -/
theorem exec_claimArrival {s : State} {m : Master} (a : Address) (dir : Direction) (cwid : BitVec 2) (x : DataWord)
    (h : s.inReset = false) (hc : s.claim m = none) :
    exec (.claimArrival m a dir cwid x) s = .next (takeClaim m a dir (widthOfCwid cwid) x s.quiet) := by
  simp [exec, execClaimArrival, event_running _ h, hc]

/-- Outside a soft reset a claim taken is decided (R30, R49). -/
theorem exec_claimArrival_decided {s : State} {m : Master} (a : Address) (dir : Direction) (cwid : BitVec 2)
    (x : DataWord) (h : s.inReset = false) (hc : s.claim m = none) (hs : softResetting s = false) :
    exec (.claimArrival m a dir cwid x) s =
      .next (decideClaim m a dir (widthOfCwid cwid) x (s.quiet.setMarker m false)) := by
  have hq : softResetting s.quiet = false := hs
  rw [exec_claimArrival a dir cwid x h hc]
  unfold takeClaim
  simp only [hq]
  rfl

/-- A grant as one bit of the permissions byte (R7, Table 10-2). -/
theorem grants_eq (w : Slot) (m : Master) (dir : Direction) :
    w.grants m dir = w.permissions.getLsbD (2 * m.val + if dir = .write then 1 else 0) := by
  cases dir <;> simp [Slot.grants, grantBit]

/-- The record of a claim bound to a slot, with its write data for a WRITE alone (R28, R32). -/
theorem windowAccess_eq (s : State) (n : SlotId) (a : Address) (dir : Direction) (w : Width) (x : DataWord) :
    windowAccess s n a dir w x =
      { address := a, direction := dir, width := w
        writeData := if dir = .write then some (laneBytes w x) else none
        binding := .slot n (s.slot n).generation, device := (s.slot n).device
        waits := (s.slot n).waits, forwarded := (s.slot n).forward a } := by
  cases dir <;> rfl

/-- The forwarded address in one expression (R3). -/
theorem forward_eq (w : Slot) (a : Address) :
    w.forward a = ((w.relocation.map fun r => r + (a - w.base)).getD a) := by
  unfold Slot.forward
  cases w.relocation <;> rfl

/-- A hold at a device whose record is rewritten in the same event (R37, R81). -/
theorem enterHold_setDevice (s : State) (m : Master) (a : Access) (r : DeviceRecord) :
    enterHold m a (s.setDevice a.device r) =
      { s with
        claims := s.claims.set m (some
          { access := a, phase := .held, timer := Timer.load s.holdLimit, verdictData := none })
        holdList := s.holdList ++ [m]
        devices := s.devices.set a.device { r with heldCount := r.heldCount + 1 } } := by
  simp [enterHold, raiseHeld, State.setDevice, State.device]

/-! ## Responses and the status byte -/

/-- A response answers the cycle in progress that has its number, and no other (R43). -/
theorem answeredCycle_iff (s : State) (n : Nat) (cy : DeviceCycle) :
    answeredCycle s n = some cy ↔ s.cycle = some cy ∧ cy.number = n := by
  simp [answeredCycle, Option.filter_eq_some_iff]

/-- A response to a cycle that is not in progress answers none (R43). -/
theorem answeredCycle_none {s : State} {n : Nat} (h : ∀ cy ∈ s.cycle, cy.number ≠ n) : answeredCycle s n = none := by
  rw [answeredCycle, Option.filter_eq_none_iff]
  simpa using h

/-- While PORN is high every read of the status byte shows its fields (R149). -/
theorem statusByte_running {s : State} (h : s.inReset = false) (read : Nat) : s.statusByte read = s.statusFields := by
  simp [State.statusByte, h]

/-! ## A device's fault -/

/-- What a device's fault changes, for a list of masters that each have a claim in flight (R64, R71). -/
theorem enterFault_frame (s : State) (d : Device) (cause : FaultCause) (ms : List Master) (hn : ms.Nodup)
    (hin : AllInFlight s ms) :
    enterFault d cause ms s =
      { s with
        answers := s.answers ++ answersOf ms .deviceFault
        claims := (enterFault d cause ms s).claims
        interceptList := s.interceptList.filter fun x => decide (x ∉ ms)
        holdList := s.holdList.filter fun x => decide (x ∉ ms)
        readyList := s.readyList.filter fun x => decide (x ∉ ms)
        cycle := s.cycle.filter fun c => decide (c.master ∉ ms)
        slots := (enterFault d cause ms s).slots
        devices := (enterFault d cause ms s).devices, flags := { s.flags with fault := true } } := by
  have hf := answerAll_frame ms .deviceFault s hn hin
  unfold enterFault
  simp only [raise, CauseFlags.raise, State.setDevice]
  generalize hv : answerAll ms .deviceFault s = v at *
  rw [hf]

/-! ## Timers -/

/-- A timer loaded with `n` reads `n - k` after `k < n` ticks, and its expiry is not due (R58). -/
theorem tick_iterate (n k : Nat) (h : k < n) :
    Timer.tick^[k] { left := n, due := false } = { left := n - k, due := false } := by
  induction k with
  | zero => rfl
  | succ k ih =>
    rw [Function.iterate_succ_apply', ih (by omega)]
    unfold Timer.tick
    have hk : ¬ n - k ≤ 1 := by omega
    simp [hk]
    omega

/-! ## Management commands -/

theorem runRecord_identify (s : State) : runRecord .identify [] s = cmdIdentify s := rfl
theorem runRecord_defineDevice (d w lo hi o : Byte) (s : State) :
    runRecord .defineDevice [d, w, lo, hi, o] s =
      cmdDefineDevice d w (hi ++ lo) o s := rfl
theorem runRecord_forgetDevice (d : Byte) (s : State) : runRecord .forgetDevice [d] s = cmdForgetDevice d s := rfl
theorem runRecord_wakeDevice (d : Byte) (s : State) : runRecord .wakeDevice [d] s = cmdWakeDevice d s := rfl
theorem runRecord_parkDevice (d : Byte) (s : State) : runRecord .parkDevice [d] s = cmdParkDevice d s := rfl
theorem runRecord_clearFault (d : Byte) (s : State) : runRecord .clearFault [d] s = cmdClearFault d s := rfl
theorem runRecord_readDevice (d : Byte) (s : State) : runRecord .readDevice [d] s = cmdReadDevice d s := rfl
theorem runRecord_openWindow (n b0 b1 b2 k p d w g o : Byte) (s : State) :
    runRecord .openWindow [n, b0, b1, b2, k, p, d, w, g, o] s =
      cmdOpen n (addressOf b0 b1 b2) k p d w g o none s := rfl
theorem runRecord_openRelocatedWindow (n b0 b1 b2 k p d w g o r0 r1 r2 : Byte) (s : State) :
    runRecord .openRelocatedWindow [n, b0, b1, b2, k, p, d, w, g, o, r0, r1, r2] s =
      cmdOpen n (addressOf b0 b1 b2) k p d w g o (some (addressOf r0 r1 r2)) s := rfl
theorem runRecord_amendWindow (n g p w x v : Byte) (s : State) :
    runRecord .amendWindow [n, g, p, w, x, v] s =
      cmdAmendWindow n g p w x v s := rfl
theorem runRecord_retireWindow (n g x : Byte) (s : State) :
    runRecord .retireWindow [n, g, x] s =
      cmdRetireWindow n g x s := rfl
theorem runRecord_readWindow (n c : Byte) (s : State) : runRecord .readWindow [n, c] s = cmdReadWindow n c s := rfl
theorem runRecord_publish (s : State) : runRecord .publish [] s = cmdPublish s := rfl
theorem runRecord_discard (s : State) : runRecord .discard [] s = cmdDiscard s := rfl
theorem runRecord_probe (m dir w a0 a1 a2 : Byte) (s : State) :
    runRecord .probe [m, dir, w, a0, a1, a2] s =
      cmdProbe m dir w (addressOf a0 a1 a2) s := rfl
theorem runRecord_interceptInfo (s : State) : runRecord .interceptInfo [] s = cmdInterceptInfo s := rfl
theorem runRecord_verdict (m v d0 d1 d2 d3 : Byte) (s : State) :
    runRecord .verdict [m, v, d0, d1, d2, d3] s =
      cmdVerdictByte m v (dataOf d0 d1 d2 d3) s := rfl
theorem runRecord_setMissPolicy (p d w : Byte) (s : State) :
    runRecord .setMissPolicy [p, d, w] s =
      cmdSetMissPolicy p d w s := rfl
theorem runRecord_setLimits (h i : Byte) (s : State) : runRecord .setLimits [h, i] s = cmdSetLimits h i s := rfl
theorem runRecord_setNotifyMask (f : Byte) (s : State) : runRecord .setNotifyMask [f] s = cmdSetNotifyMask f s := rfl
theorem runRecord_readNotify (s : State) : runRecord .readNotify [] s = cmdReadNotify s := rfl
theorem runRecord_clearNotify (f : Byte) (s : State) : runRecord .clearNotify [f] s = cmdClearNotify f s := rfl
theorem runRecord_softReset (s : State) : runRecord .softReset [] s = cmdSoftReset s := rfl

theorem extractLsb'_append_low (x : BitVec 16) : x.extractLsb' 8 8 ++ x.extractLsb' 0 8 = x := by
  ext i hi
  simp only [BitVec.getElem_append, BitVec.getElem_extractLsb']
  split <;> (rw [← BitVec.getLsbD_eq_getElem]; congr 1; omega)

/-- A management command sent whole is one decoder call on its parameter bytes, or the misuse that R155 and R156
give while the port is EXECUTING (R152, R159). -/
theorem exec_wholeCommand {c : Instr} {code : CommandCode} {params : List Byte} (s : State)
    (h : commandBytes c = some (code, params)) : exec c s = event s (sendWhole code (runRecord code params)) := by
  cases c <;> simp only [commandBytes, reduceCtorEq, Option.some.injEq, Prod.mk.injEq] at h <;>
    obtain ⟨rfl, rfl⟩ := h <;>
    refine congrArg (fun run => event s (sendWhole _ run)) (funext fun t => ?_) <;>
    simp only [runRecord_identify, runRecord_defineDevice, runRecord_forgetDevice, runRecord_wakeDevice,
      runRecord_parkDevice, runRecord_clearFault, runRecord_readDevice, runRecord_openWindow,
      runRecord_openRelocatedWindow, runRecord_amendWindow, runRecord_retireWindow, runRecord_readWindow,
      runRecord_publish, runRecord_discard, runRecord_probe, runRecord_interceptInfo, runRecord_verdict,
      runRecord_setMissPolicy, runRecord_setLimits, runRecord_setNotifyMask, runRecord_readNotify,
      runRecord_clearNotify, runRecord_softReset, addressBytes, laneBytes, List.cons_append, List.nil_append,
      addressOf_addressBytes, dataOf_laneBytes, extractLsb'_append_low] <;>
    rfl

/-- The parameter bytes of a management command are as many as its code calls for (Table 10-1). -/
theorem commandBytes_length {c : Instr} {code : CommandCode} {params : List Byte}
    (h : commandBytes c = some (code, params)) : params.length = code.paramCount := by
  cases c <;> simp only [commandBytes, reduceCtorEq, Option.some.injEq, Prod.mk.injEq] at h <;>
    obtain ⟨rfl, rfl⟩ := h <;> rfl

/-- An open command whose command byte is taken (R150, R165). -/
theorem exec_openCommand {s : State} (b : Byte) (base : Address) (k p d w g o : Byte) (r : Option Address)
    (h : s.inReset = false) (hb : s.port.busy = false) :
    exec (openCommand b base k p d w g o r) s = .next (cmdOpen b base k p d w g o r (takeCommandByte s.quiet)) := by
  cases r <;> simp only [openCommand, exec, execOpenWindow, execOpenRelocatedWindow, event_sendWhole _ _ h hb]

/-- The range checks of an open pass on parameters in range (R165, check 1). -/
theorem readOpen_some {b : Byte} {base : Address} {k p d w g o : Byte} {r : Option Address} {n : SlotId} {pr : Fin 8}
    {dv : Device} {wt : Fin 16} (h1 : b.toNat = n.val) (h2 : 8 ≤ k.toNat) (h3 : k.toNat ≤ 20) (h4 : p.toNat = pr.val)
    (h5 : d.toNat = dv.val) (h6 : w.toNat = wt.val) (h7 : o.toNat < 8) (h8 : o.toNat % 4 ≠ 3)
    (h9 : base.toNat % 2 ^ k.toNat = 0) (h10 : ∀ x ∈ r, x.toNat % 2 ^ k.toNat = 0) :
    readOpen b base k p d w g o r = some
      { slot := n, base := base, size := k.toNat, precedence := pr, device := dv, waits := wt, permissions := g
        watch := if o.toNat % 4 = 0 then .off else if o.toNat % 4 = 1 then .writes else .all
        staged := decide (4 ≤ o.toNat), relocation := r } := by
  have ha : (alignedTo k.toNat base && (r.all (alignedTo k.toNat))) = true := by
    cases r <;> simp [alignedTo, h9]
    simpa using h10
  simp only [readOpen, readFin_some h1, readSize, h2, h3, and_self, if_true, readFin_some h4, readFin_some h5,
    readFin_some h6, readWindowOptions_eq, h7, h8, ne_eq, not_false_eq_true, ha]

/-- A verdict byte above 02h is out of range (R172, check 1). -/
theorem readVerdict_none {v : Byte} (h : 3 ≤ v.toNat) : readVerdict v = none := by
  revert v
  decide

/-- A VERDICT whose verdict byte is out of range touches no record (R172, check 1). -/
theorem cmdVerdictByte_out_of_range {v : Byte} (b : Byte) (x : DataWord) (s : State) (h : 3 ≤ v.toNat) :
    cmdVerdictByte b v x s = reply [0x02#8] s := by
  rw [cmdVerdictByte, readVerdict_none h]
  rfl

theorem readWidth_eq (b : Byte) : readWidth b =
    if b.toNat = 1 then some .one else if b.toNat = 2 then some .two else if b.toNat = 4 then some .four
    else none := by
  revert b
  decide

end Sys2Proof.Machine
end

