-- ==== Sys2Proof/Laws/Keeps.lean ====
section
/-! SUPPORT. What a step can do, said once: a law of the records is kept by every step when it is kept by each effect
of the list below. A proof of such a law is one lemma for each effect. -/

namespace Sys2Proof.Machine

/-- Two states that differ at most in the outputs of an event, the flags, the port (but not in whether a soft reset is
running), the counter of free values and the queue. -/
def SameRecords (s t : State) : Prop :=
  softResetting t = softResetting s ∧
    t = { s with answers := t.answers, md := t.md, penPulses := t.penPulses, port := t.port, flags := t.flags
                 freeCount := t.freeCount, pending := t.pending }

theorem sameRecords_quiet (s : State) : SameRecords s s.quiet := ⟨rfl, rfl⟩

theorem sameRecords_pending (s : State) (l : List Instr) : SameRecords s { s with pending := l } := ⟨rfl, rfl⟩

theorem sameRecords_raise (s : State) (c : Cause) : SameRecords s (raise c s) := ⟨rfl, rfl⟩

theorem sameRecords_collide (s : State) : SameRecords s (collide s) := ⟨rfl, rfl⟩

theorem sameRecords_orphan (s : State) : SameRecords s (orphan s) := ⟨rfl, rfl⟩

/-- A port that is not EXECUTING before and after leaves the records the same. -/
theorem sameRecords_port {s : State} (p : Port) (f : CauseFlags) (hs : softResetting s = false) (hp : p.busy = false) :
    SameRecords s { s with port := p, flags := f } := by
  refine ⟨?_, rfl⟩
  rw [hs]
  unfold Port.busy at hp
  unfold softResetting
  split at hp <;> simp_all

theorem softResetting_of_not_busy {s : State} (h : s.port.busy = false) : softResetting s = false := by
  unfold Port.busy at h
  unfold softResetting
  split at h <;> simp_all

theorem takeCommandByte_not_busy (s : State) : (takeCommandByte s).port.busy = false := by
  rw [takeCommandByte_eq]
  rfl

theorem sameRecords_takeCommandByte {s : State} (h : s.port.busy = false) : SameRecords s (takeCommandByte s) := by
  rw [takeCommandByte_eq]
  exact sameRecords_port _ _ (softResetting_of_not_busy h) rfl

/-- The effects of the events and of the command decoder on the records, each on a state without the outputs of an
earlier event, with what is known of the state in which it happens. -/
structure Keeps (P : State → Prop) : Prop where
  same : ∀ s t, P s → SameRecords s t → P t
  arrival : ∀ m a dir w x s, P s → s.claim m = none → P (takeClaim m a dir w x s)
  grant : ∀ m rest c s, P s → s.cycle = none → s.readyList = m :: rest → s.claim m = some c → P (grantHead m rest c s)
  completion : ∀ cy c dd s, P s → s.cycle = some cy → s.claim cy.master = some c → P (complete cy.master c.access dd s)
  tick : ∀ s, P s → P (tickAll s)
  wake : ∀ d level s, P s → (s.device d).residency = .waking → P (endWake d level s)
  idle : ∀ d s, P s → (s.device d).residency = .on → timerDue (s.device d).idleTimer = true → P (endIdle d s)
  hold : ∀ m c s, P s → s.claim m = some c → c.phase = .held → P (answerClaim m c.access .holdTimeout 0#32 s)
  intercept : ∀ m c s, P s → s.claim m = some c → c.phase = .intercept →
    P ((answerClaim m c.access .interceptTimeout 0#32 s).setMarker m true)
  departure : ∀ d level s, P s → (s.device d).residency = .on ∨ (s.device d).residency = .parking →
    (s.device d).sense.badLevel = some level → P (losePower d (samplePgd d level s))
  low : ∀ s, P s → P (heldInReset s)
  high : ∀ x s, P s → P (powerOnState x s)
  bus : ∀ s, P s → P (busReset s)
  record : ∀ code params s, P s → s.port.busy = false → P (runRecord code params s)
  unknown : ∀ s, P s → s.port.busy = false → P (cmdUnknown s)
  published : ∀ s x, P s → s.port.condition = .executing .publish x → P (completePublish s)
  rebuilt : ∀ s x, P s → s.port.condition = .executing .softReset x → P (completeSoftReset s)

theorem event_keeps {P : State → Prop} (k : Keeps P) {s t : State} {f : State → State} (h : event s f = .next t)
    (hs : P s) (hf : P s.quiet → P (f s.quiet)) : P t := by
  have hq := k.same _ _ hs (sameRecords_quiet s)
  unfold event at h
  split at h <;> cases h
  · exact hq
  · exact hf hq

theorem sendWhole_keeps {P : State → Prop} (k : Keeps P) (code : CommandCode) (params : List Byte) {s : State}
    (hs : P s) : P (sendWhole code (runRecord code params) s) := by
  unfold sendWhole
  split
  · split
    · exact k.same _ _ hs (sameRecords_collide s)
    · exact k.same _ _ (k.same _ _ hs (sameRecords_collide s)) (sameRecords_orphan _)
  all_goals
    rename_i hc
    exact k.record _ _ _ (k.same _ _ hs (sameRecords_takeCommandByte (by simp [Port.busy, hc])))
      (takeCommandByte_not_busy s)

theorem openRecord_keeps {P : State → Prop} (k : Keeps P) (b : Byte) {s : State} (hs : P s)
    (hb : s.port.busy = false) : P (openRecord b s) := by
  have ht := k.same _ _ hs (sameRecords_takeCommandByte hb)
  unfold openRecord
  simp only
  split
  · exact k.unknown _ ht (takeCommandByte_not_busy s)
  · split
    · exact k.record _ _ _ ht (takeCommandByte_not_busy s)
    · exact k.same _ _ ht
        (sameRecords_port _ _ (softResetting_of_not_busy (takeCommandByte_not_busy s)) rfl)

theorem writeCommand_keeps {P : State → Prop} (k : Keeps P) (b : Byte) {s : State} (hs : P s) :
    P (writeCommand b s) := by
  unfold writeCommand
  split
  · exact k.same _ _ hs (sameRecords_collide s)
  all_goals
    rename_i hc
    exact openRecord_keeps k b hs (by simp [Port.busy, hc])

theorem writeData_keeps {P : State → Prop} (k : Keeps P) (b : Byte) {s : State} (hs : P s) : P (writeData b s) := by
  unfold writeData
  split
  · rename_i hc
    have hb : s.port.busy = false := by simp [Port.busy, hc]
    unfold addParameter
    split
    · exact k.record _ _ _ (k.same _ _ hs (sameRecords_port _ _ (softResetting_of_not_busy hb) rfl)) rfl
    · exact k.same _ _ hs (sameRecords_port _ _ (softResetting_of_not_busy hb) rfl)
  all_goals exact k.same _ _ hs (sameRecords_orphan s)

theorem sameRecords_readData (s : State) : SameRecords s (readData s) := by
  unfold readData
  split
  · rename_i b rest hc
    refine ⟨?_, rfl⟩
    unfold softResetting
    rw [hc]
    cases rest <;> rfl
  all_goals exact ⟨rfl, rfl⟩

/-- A law that every effect keeps is kept by every command (the whole of `exec`, said once). -/
theorem exec_keeps {P : State → Prop} (k : Keeps P) {c : Instr} {s t : State} (h : exec c s = .next t) (hs : P s) :
    P t := by
  cases hw : commandBytes c with
  | some w =>
    rw [exec_wholeCommand s hw] at h
    exact event_keeps k h hs fun hq => sendWhole_keeps k _ _ hq
  | none =>
    cases c <;> simp only [commandBytes, reduceCtorEq] at hw
    case claimArrival m a dir w x =>
      simp only [exec, execClaimArrival] at h
      refine event_keeps k h hs fun hq => ?_
      split
      · exact hq
      · exact k.arrival _ _ _ _ _ _ hq ‹_›
    case grant =>
      simp only [exec, execGrant] at h
      refine event_keeps k h hs fun hq => ?_
      split
      · split
        · exact k.grant _ _ _ _ hq ‹_› ‹_› ‹_›
        · exact hq
      all_goals exact hq
    case completion dd =>
      simp only [exec, execCompletion] at h
      refine event_keeps k h hs fun hq => ?_
      split
      · split
        · exact k.completion _ _ _ _ hq ((answeredCycle_iff ..).1 ‹_›).1 ‹_›
        · exact hq
      · exact hq
    case tick => exact event_keeps k h hs fun hq => k.tick _ hq
    case wakeTimerExpiry d level =>
      simp only [exec, execWakeTimerExpiry] at h
      refine event_keeps k h hs fun hq => ?_
      split
      · rename_i hc; exact k.wake _ _ _ hq hc.1
      · exact hq
    case idleTimerExpiry d =>
      simp only [exec, execIdleTimerExpiry] at h
      refine event_keeps k h hs fun hq => ?_
      split
      · rename_i hc; exact k.idle _ _ hq hc.1 hc.2
      · exact hq
    case holdTimerExpiry m =>
      simp only [exec, execHoldTimerExpiry] at h
      refine event_keeps k h hs fun hq => ?_
      split
      · split
        · rename_i hm hc; exact k.same _ _ (k.hold _ _ _ hq hm hc.1) (sameRecords_raise ..)
        · exact hq
      · exact hq
    case interceptTimerExpiry m =>
      simp only [exec, execInterceptTimerExpiry] at h
      refine event_keeps k h hs fun hq => ?_
      split
      · split
        · rename_i hm hc; exact k.same _ _ (k.intercept _ _ _ hq hm hc.1) (sameRecords_raise ..)
        · exact hq
      · exact hq
    case departureFromConformity d =>
      simp only [exec, execDepartureFromConformity] at h
      refine event_keeps k h hs fun hq => ?_
      split
      · exact hq
      · split
        · rename_i hl hc; exact k.departure _ _ _ hq hc.1 hl
        · exact hq
    case powerOnReset => exact event_keeps k h hs fun hq => k.low _ hq
    case endOfPowerOnReset =>
      simp only [exec, execEndOfPowerOnReset, Host.Outcome.next.injEq] at h
      have hq := k.same _ _ hs (sameRecords_quiet s)
      subst h
      split
      · exact k.high _ _ hq
      · exact hq
    case busReset => exact event_keeps k h hs fun hq => k.bus _ hq
    case commandByte b => exact event_keeps k h hs fun hq => writeCommand_keeps k b hq
    case unknownCommand b => exact event_keeps k h hs fun hq => writeCommand_keeps k b hq
    case parameterByte b => exact event_keeps k h hs fun hq => writeData_keeps k b hq
    case replyByteRead =>
      simp only [exec, execReplyByteRead, Host.Outcome.next.injEq] at h
      have hq := k.same _ _ hs (sameRecords_quiet s)
      subst h
      split
      · exact k.same _ _ hs ⟨rfl, rfl⟩
      · exact k.same _ _ hq (sameRecords_readData _)
    case publishCompletion =>
      simp only [exec, execPublishCompletion] at h
      refine event_keeps k h hs fun hq => ?_
      split
      · split
        · exact k.published _ _ hq ‹_›
        · exact hq
      all_goals exact hq
    case softResetCompletion =>
      simp only [exec, execSoftResetCompletion] at h
      refine event_keeps k h hs fun hq => ?_
      split
      · split
        · exact k.rebuilt _ _ hq ‹_›
        · exact hq
      all_goals exact hq

/-- A law that every effect keeps is kept by every step. -/
theorem step_keeps {P : State → Prop} (k : Keeps P) {s t : State} (h : step s = .next t) (hs : P s) : P t := by
  unfold step at h
  split at h
  · cases h; exact hs
  · exact exec_keeps k h (k.same _ _ hs (sameRecords_pending s _))

end Sys2Proof.Machine
end

