-- ==== Sys2Proof/Laws/Resets.lean ====
section
/-! SUPPORT. The resets and the publish, entry by entry of the tables they rewrite. (A plain `rfl` between a field of
such a state and the same field before it first compares the whole states; these equations spare a proof that.) -/

namespace Sys2Proof.Machine

/-! ## Bus reset -/

@[simp] theorem busReset_missPolicy (s : State) : (busReset s).missPolicy = s.missPolicy := by simp [busReset]
@[simp] theorem busReset_fallbackDevice (s : State) : (busReset s).fallbackDevice = s.fallbackDevice := by
  simp [busReset]
@[simp] theorem busReset_claim (s : State) (m : Master) : (busReset s).claim m = none := by
  simp [claim_def, busReset]
@[simp] theorem busReset_marker (s : State) (m : Master) : (busReset s).marker m = false := by
  simp [marker_def, busReset]

theorem busReset_slot (s : State) (n : SlotId) : (busReset s).slot n = (s.slot n).busReset := by
  rw [slot_def]; simp only [busReset, mapTable_getElem]; rfl

theorem busReset_device (s : State) (d : Device) : (busReset s).device d =
    ({ s.device d with
      refCount := (s.device d).refCount -
        countSlots (fun w => (w.state == .draining) && decide (w.device = d)) s.slots
      heldCount := 0 } : DeviceRecord).endParkEmpty := by
  rw [device_def]; simp only [busReset, mapTable_getElem, dropReferences_getElem]

/-- References after a bus reset: those of the DRAINING slots are gone (R26). -/
theorem busReset_references (s : State) (d : Device) : references (busReset s) d =
    references s d - countSlots (fun w => (w.state == .draining) && decide (w.device = d)) s.slots := by
  refine references_dropped (p := fun w => w.state == .draining) (busReset_missPolicy s) (busReset_fallbackDevice s)
    fun n => ?_
  rw [busReset_slot]; unfold Slot.busReset refersTo
  cases hq : (s.slot n).state <;> by_cases hd : (s.slot n).device = d <;> simp [hd]

theorem busReset_referenceLaw {s : State} (h : ReferenceLaw s) : ReferenceLaw (busReset s) := by
  intro d
  rw [busReset_device, busReset_references, h d]
  unfold DeviceRecord.endParkEmpty; split <;> rfl

/-! ## Soft reset -/

theorem completeSoftReset_slot (s : State) (n : SlotId) : (completeSoftReset s).slot n =
    if n = 0 then bootSlot s.straps ((s.slot 0).generation + 1) else (s.slot n).softReset := by
  have h := vector_set_getElem (mapTable (fun _ w => w.softReset) s.slots) 0 n
    (bootSlot s.straps ((s.slot 0).generation + 1))
  rw [mapTable_getElem] at h
  exact h

theorem completeSoftReset_device (s : State) (d : Device) : (completeSoftReset s).device d =
    if d = 0 then (s.device 0).softResetZero s.straps else (s.device d).softReset := by
  have h := vector_set_getElem (mapTable (fun _ r => r.softReset) s.devices) 0 d ((s.device 0).softResetZero s.straps)
  rw [mapTable_getElem] at h
  exact h

/-- The masters with a claim in flight, in the order of R48. -/
def inFlight (s : State) : List Master := s.interceptList ++ s.holdList ++ s.readyList ++ activeMaster s

theorem mem_activeMaster (s : State) (m : Master) :
    m ∈ activeMaster s ↔ s.cycle.map DeviceCycle.master = some m := by
  unfold activeMaster; cases s.cycle <;> simp [eq_comm]

theorem activeMaster_nodup (s : State) : (activeMaster s).Nodup := by
  unfold activeMaster; cases s.cycle <;> simp

/-- Under the law of places, the lists and the bus hold every claim in flight once. -/
theorem mem_inFlight {s : State} (hp : PlacesLaw s) (m : Master) : m ∈ inFlight s ↔ (s.claim m).isSome = true := by
  obtain ⟨_, _, _, hI, hH, hR, hA, _⟩ := hp
  simp only [inFlight, List.mem_append, hI, hH, hR, mem_activeMaster, ← hA]
  unfold State.phaseOf
  cases hc : s.claim m with
  | none => simp
  | some c => cases hp : c.phase <;> simp [hp]

theorem inFlight_nodup {s : State} (hp : PlacesLaw s) : (inFlight s).Nodup := by
  obtain ⟨nI, nH, nR, hI, hH, hR, hA, _⟩ := hp
  unfold inFlight
  rw [List.nodup_append, List.nodup_append, List.nodup_append]
  refine ⟨⟨⟨nI, nH, ?_⟩, nR, ?_⟩, activeMaster_nodup s, ?_⟩
  · rintro a ha b hb rfl; rw [hI] at ha; rw [hH] at hb; rw [ha] at hb; cases hb
  · rintro a ha b hb rfl; rw [List.mem_append, hI, hH] at ha; rw [hR] at hb; rw [hb] at ha; simp at ha
  · rintro a ha b hb rfl
    rw [List.mem_append, List.mem_append, hI, hH, hR] at ha
    rw [mem_activeMaster, ← hA] at hb; rw [hb] at ha; simp at ha

/-! ## Publish and discard -/

theorem applyPublish_slot (s : State) (n : SlotId) : (applyPublish s).slot n = (s.slot n).publish := by
  rw [slot_def]; simp only [applyPublish, mapTable_getElem]; rfl

theorem applyPublish_device (s : State) (d : Device) : (applyPublish s).device d =
    { s.device d with
      refCount := (s.device d).refCount -
        countSlots (fun w => Slot.freedByPublish w && decide (w.device = d)) s.slots } := by
  rw [device_def]; simp only [applyPublish, dropReferences_getElem]

theorem applyPublish_references (s : State) (d : Device) : references (applyPublish s) d =
    references s d - countSlots (fun w => Slot.freedByPublish w && decide (w.device = d)) s.slots := by
  refine references_dropped (p := Slot.freedByPublish) (by simp [applyPublish]) (by simp [applyPublish]) fun n => ?_
  rw [applyPublish_slot]; unfold Slot.publish Slot.freedByPublish refersTo
  cases hq : (s.slot n).state <;> by_cases hd : (s.slot n).device = d <;> by_cases hb : (s.slot n).bound = 0 <;>
    simp [hd, hb, hq]

theorem applyPublish_referenceLaw {s : State} (h : ReferenceLaw s) : ReferenceLaw (applyPublish s) := by
  intro d
  rw [applyPublish_device, applyPublish_references, h d]

/-- No conflict is found when no STAGED window conflicts with another window of the new view. -/
theorem firstConflict_none {s : State} (h : ∀ n m, n ≠ m → (s.slot n).state = .staged →
    (s.slot m).state = .live ∨ (s.slot m).state = .staged → (s.slot n).conflicts (s.slot m) = false) :
    firstConflict s = none := by
  rw [firstConflict, List.findSome?_eq_none_iff]
  intro n _
  split
  · rename_i hs
    rw [Option.map_eq_none_iff, List.find?_eq_none]
    intro m _
    by_cases hne : m = n
    · simp [hne]
    · have hne' : n ≠ m := fun e => hne e.symm
      cases hm : (s.slot m).state <;> simp [hne]
      · exact h n m hne' hs (Or.inr hm)
      · exact h n m hne' hs (Or.inl hm)
  · rfl

end Sys2Proof.Machine
end

