-- ==== Sys2Proof/WellFormed.lean ====
section
/-! DEFINITION. Which command terms are rows of the table. The operand types already hold every bound a
signal or a byte has; the one further check is that UNKNOWN_COMMAND carries a code that names no command. -/

namespace Sys2Proof

/-- A command term is a row of the opcode table (R151 for the one check). -/
def Instr.wellFormed : Instr → Bool
  | .unknownCommand code => (CommandCode.ofByte code).isNone
  | .claimArrival .. | .grant | .completion .. | .tick | .wakeTimerExpiry .. | .idleTimerExpiry _
  | .holdTimerExpiry _ | .interceptTimerExpiry _ | .departureFromConformity _ | .powerOnReset
  | .endOfPowerOnReset .. | .busReset | .commandByte _ | .parameterByte _ | .replyByteRead | .identify
  | .defineDevice .. | .forgetDevice _ | .wakeDevice _ | .parkDevice _ | .clearFault _ | .readDevice _
  | .openWindow .. | .openRelocatedWindow .. | .amendWindow .. | .retireWindow .. | .readWindow ..
  | .publish | .publishCompletion | .discard | .probe .. | .interceptInfo | .verdictPass ..
  | .verdictRefuse .. | .verdictSupply .. | .setMissPolicy .. | .setLimits .. | .setNotifyMask _
  | .readNotify | .clearNotify _ | .softReset | .softResetCompletion => true

end Sys2Proof
end

