-- ==== Sys2Proof/Tests/Slice0.lean ====
section
/-! SUPPORT. Small tests of the model: the smoke test of WellFormed, one step of each command on a small state,
most of them rows of the spec's worked examples, and for each statement with hypotheses a state and operands that
meet all of them. -/

namespace Sys2Proof.Tests

open Sys2Proof Sys2Proof.Machine

/-! ## Small states -/

/-- The state after one command, or the state itself where the command stops. -/
def after (c : Instr) (s : State) : State :=
  match exec c s with
  | .next t => t
  | .fault _ => s
  | .refused _ => s

/-- The bytes of the reply that the port holds. -/
def replied (s : State) : List Byte :=
  match s.port.condition with
  | .replying bytes => bytes
  | .idle => []
  | .collecting _ _ => []
  | .executing _ _ => []

/-- A device that is ON, with auto-wake, an idle limit of 5 and one reference. -/
def onDevice : DeviceRecord :=
  { residency := .on, wakeTime := 3, idleLimit := 5, idleTimer := Timer.load 5, wakeTimer := none, autoWake := true,
    sense := .high, refCount := 1, heldCount := 0, faultCause := .none, pen := true }

/-- A device that is OFF, with one reference. -/
def offDevice (autoWake : Bool) : DeviceRecord :=
  { onDevice with residency := .off, idleTimer := none, pen := false, autoWake := autoWake }

/-- A device in FAULT, with one reference. -/
def faultDevice : DeviceRecord :=
  { onDevice with residency := .fault, faultCause := .powerLost, idleTimer := none, pen := false }

/-- A device that is PARKING, with one reference. -/
def parkingDevice : DeviceRecord := { onDevice with residency := .parking, idleTimer := none }

/-- A device that is WAKING, with one reference and its timer due. -/
def wakingDevice : DeviceRecord :=
  { onDevice with residency := .waking, idleTimer := none, wakeTimer := some { left := 1, due := true } }

/-- A window that is LIVE, of 2^k bytes. -/
def window (base : Address) (k : Nat) (p : Fin 8) (d : Device) (w : Fin 16) (g : Byte) : Slot :=
  { Slot.blank with
    state := .live, base := base, size := k, precedence := p, device := d, waits := w, permissions := g }

/-- The windows of Table 1-5, with the grants of chapter 2's example, and their devices ON. -/
def nested : State :=
  { State.reset with
    slots := ((State.reset.slots.set 3 (window 0x200000#24 20 2 2 1 0x03#8)).set 7
      { window 0x240000#24 14 5 5 6 0x14#8 with relocation := some 0x000000#24 }).set 12
      (window 0x380000#24 16 2 9 0 0x14#8)
    devices := ((State.reset.devices.set 2 onDevice).set 5 onDevice).set 9 onDevice
    pgd := ((State.reset.pgd.set 2 true).set 5 true).set 9 true }

/-- The access of chapter 2's example: M1 reads 2 bytes at 2410A4h through slot 7. -/
def readAccess : Access :=
  { address := 0x2410A4#24, direction := .read, width := .two, writeData := none, binding := .slot 7 0, device := 5,
    waits := 6, forwarded := 0x0010A4#24 }

/-- A timer whose expiry is due. -/
def dueTimer : Option Timer := some { left := 1, due := true }

/-- M1's claim of the example in one phase, with slot 7's bound count at 1 and a given record for D5. -/
def claimed (p : Phase) (timer : Option Timer) (r : DeviceRecord) : State :=
  { nested with
    claims := nested.claims.set 1 (some { access := readAccess, phase := p, timer := timer, verdictData := none })
    slots := nested.slots.set 7 { nested.slot 7 with bound := 1 }
    devices := nested.devices.set 5 r }

/-- M1's claim READY. -/
def ready : State := { claimed .ready none onDevice with readyList := [1] }

/-- M1's claim ACTIVE on a device with a given record. -/
def active (r : DeviceRecord) : State := { claimed .active none r with cycle := some (cycleOf 0 1 readAccess), cyclesBegun := 1 }

/-- M1's claim HELD for a device with a given record, its hold timer due. -/
def held (r : DeviceRecord) : State := { claimed .held dueTimer { r with heldCount := 1 } with holdList := [1] }

/-- M1's claim in the intercept list, its timer due. -/
def caught : State := { claimed .intercept dueTimer onDevice with interceptList := [1] }

/-- A state with another condition of the port. -/
def withPort (x : PortCondition) (s : State) : State := { s with port := { s.port with condition := x } }

/-- The state while PORN is low. -/
def low : State := { State.reset with inReset := true }

/-- One device record put into the example's state. -/
def withD5 (r : DeviceRecord) : State := { nested with devices := nested.devices.set 5 r }

/-- One slot put into the example's state. -/
def withSlot20 (w : Slot) : State := { nested with slots := nested.slots.set 20 w }

/-! ## WellFormed -/

theorem test_unknownCommand_with_a_known_code_is_refused : (Instr.unknownCommand 0x01#8).wellFormed = false := by decide

theorem test_unknownCommand_without_a_command_is_wellFormed : (Instr.unknownCommand 0x02#8).wellFormed = true := by decide

theorem test_no_word_spells_a_command : decodeTableWord 8 0x01 = none := by decide

/-! ## Claims (chapters 1 and 2) -/

theorem test_lookups_of_table_1_6 :
    lookup nested 0x23FFFF#24 = some 3 ∧ lookup nested 0x240000#24 = some 7 ∧ lookup nested 0x243FFF#24 = some 7 ∧
      lookup nested 0x244000#24 = some 3 ∧ lookup nested 0x300000#24 = none ∧ lookup nested 0x38C000#24 = some 12 := by
  decide

theorem test_claimArrival_of_event_1 :
    let t := after (.claimArrival 1 0x2410A4#24 .read 1#2 0#32) nested
    t.readyList = [1] ∧ t.claim 1 = some { access := readAccess, phase := .ready, timer := none, verdictData := none } ∧
      (t.slot 7).bound = 1 := by
  decide

theorem test_claimArrival_of_event_7 :
    (after (.claimArrival 1 0x243FFE#24 .read 2#2 0#32) nested).answers =
      [{ master := 1, reason := .straddle, data := 0#32 }] := by
  decide

theorem test_grant_of_event_2 :
    (after .grant ready).cycle =
      some { number := 0, master := 1, sel := 5, da := 0x0010A4#24, drw := .read, dd := none, waits := 6 } := by
  decide

theorem test_completion_of_event_5 :
    let t := after (.completion { cycle := 0, dd := 0xAABBCCDD#32 }) (active onDevice)
    t.answers = [{ master := 1, reason := .done, data := 0x0000CCDD#32 }] ∧ (t.slot 7).touched = true ∧
      t.cycle = none := by
  decide

/-- The late response of the cut cycle 0, with M1's claim ACTIVE in cycle 1. -/
theorem test_completion_of_a_cut_cycle :
    let s := { active onDevice with cycle := some (cycleOf 1 1 readAccess), cyclesBegun := 2 }
    (after (.completion { cycle := 0, dd := 0#32 }) s).cycle = s.cycle ∧
      (after (.completion { cycle := 0, dd := 0#32 }) s).answers = [] := by
  decide

/-! ## Timers and power good -/

theorem test_tick_lowers_the_wake_timer : ((after .tick State.reset).device 0).wakeTimer = some { left := 15, due := false } := by
  decide

theorem test_wakeTimerExpiry_releases_the_held_claim :
    let t := after (.wakeTimerExpiry 5 true) (held wakingDevice)
    t.readyList = [1] ∧ t.holdList = [] ∧ (t.device 5).residency = .on := by
  decide

theorem test_idleTimerExpiry_powers_off :
    ((after (.idleTimerExpiry 5) (withD5 { onDevice with idleTimer := dueTimer })).device 5).residency = .off := by
  decide

theorem test_holdTimerExpiry_answers :
    (after (.holdTimerExpiry 1) (held wakingDevice)).answers =
      [{ master := 1, reason := .holdTimeout, data := 0#32 }] := by
  decide

theorem test_interceptTimerExpiry_marks : (after (.interceptTimerExpiry 1) caught).marker 1 = true := by decide

theorem test_departureFromConformity_of_event_8 :
    let t := after (.departureFromConformity 5) ready
    t.answers = [{ master := 1, reason := .deviceFault, data := 0#32 }] ∧ (t.device 5).faultCause = .powerLost := by
  decide

/-! ## Resets -/

theorem test_powerOnReset_drops_the_claim : (after .powerOnReset ready).claim 1 = none := by decide

theorem test_endOfPowerOnReset_latches_the_straps :
    let t := after (.endOfPowerOnReset 3#2 1#2 2#2) low
    (t.slot 0).base = 0xF80000#24 ∧ (t.slot 0).size = 19 ∧ (t.slot 0).waits = 4 ∧ (t.device 0).sense = .low := by
  decide

theorem test_busReset_gives_no_answer :
    let t := after .busReset ready
    t.answers = [] ∧ t.claim 1 = none ∧ (t.slot 7).bound = 0 := by
  decide

theorem test_softReset_answers_reset :
    (after .softReset ready).answers = [{ master := 1, reason := .reset, data := 0#32 }] := by decide

theorem test_softResetCompletion_replies :
    let t := after .softResetCompletion (withPort (.executing .softReset { left := 1, due := true }) nested)
    replied t = [0x00#8] ∧ (t.slot 3).state = .free ∧ (t.slot 0).generation = 1 ∧ t.flags.done = true := by
  decide

/-! ## The port -/

theorem test_commandByte_collects :
    (after (.commandByte 0x22#8) State.reset).port.condition = .collecting .amendWindow [] := by decide

theorem test_parameterByte_runs_the_command :
    replied (after (.parameterByte 0x05#8) (withPort (.collecting .setLimits [0x07#8]) State.reset)) = [0x00#8] ∧
      (after (.parameterByte 0x05#8) (withPort (.collecting .setLimits [0x07#8]) State.reset)).holdLimit = 7 := by
  decide

theorem test_replyByteRead_removes_the_byte :
    let t := after .replyByteRead (withPort (.replying [0x0A#8, 0x0B#8]) State.reset)
    t.md = some 0x0A#8 ∧ replied t = [0x0B#8] := by
  decide

theorem test_unknownCommand_replies : replied (after (.unknownCommand 0x7E#8) State.reset) = [0x01#8] := by decide

theorem test_status_of_table_9_4_step_3 :
    (after .replyByteRead (withPort (.collecting .amendWindow [12#8, 3#8, 2#8]) State.reset)).statusByte 0 = 0x19#8 := by
  decide

/-! ## Device commands -/

theorem test_identify : replied (after .identify State.reset) = [0x00#8, 0x6A#8, 0x01#8, 0x40#8, 0x10#8, 0x00#8] := by
  decide

theorem test_defineDevice :
    ((after (.defineDevice 1#8 3#8 0x0102#16 0x03#8) State.reset).device 1).sense = .high ∧
      ((after (.defineDevice 1#8 3#8 0x0102#16 0x03#8) State.reset).device 1).idleLimit = 258 := by
  decide

theorem test_forgetDevice_in_use : replied (after (.forgetDevice 5#8) (withD5 (offDevice true))) = [0x06#8] := by decide

theorem test_wakeDevice : ((after (.wakeDevice 5#8) (withD5 (offDevice true))).device 5).wakeTimer = Timer.load 3 := by
  decide

theorem test_parkDevice_with_work : ((after (.parkDevice 5#8) ready).device 5).residency = .parking := by decide

theorem test_clearFault : ((after (.clearFault 5#8) (withD5 faultDevice)).device 5).residency = .off := by decide

theorem test_readDevice :
    replied (after (.readDevice 0#8) State.reset) =
      [0x00#8, 0x02#8, 16#8, 0#8, 0#8, 0#8, 0#8, 0x01#8, 1#8, 0#8, 0x00#8] := by
  decide

/-! ## Window commands -/

theorem test_openWindow_overlap_then_accepted :
    replied (after (.openWindow 20#8 0x280000#24 16#8 2#8 2#8 0#8 0xFF#8 0#8) nested) = [0x07#8, 0x00#8] ∧
      replied (after (.openWindow 20#8 0x280000#24 16#8 3#8 2#8 0#8 0xFF#8 0#8) nested) = [0x00#8, 0x01#8] := by
  decide

theorem test_openRelocatedWindow :
    ((after (.openRelocatedWindow 20#8 0x280000#24 16#8 3#8 2#8 0#8 0xFF#8 0#8 0x010000#24) nested).slot 20).relocation =
      some 0x010000#24 := by
  decide

theorem test_amendWindow : ((after (.amendWindow 7#8 0#8 6#8 1#8 0xFF#8 2#8) nested).slot 7).watch = .all := by decide

theorem test_retireWindow_of_a_bound_window : ((after (.retireWindow 7#8 0#8 0#8) ready).slot 7).state = .draining := by
  decide

theorem test_readWindow :
    replied (after (.readWindow 7#8 0#8) nested) =
      [0x00#8, 0x02#8, 0x01#8, 0x00#8, 0x00#8, 0x24#8, 14#8, 5#8, 5#8, 6#8, 0x14#8, 0x00#8, 0x01#8, 0x00#8, 0x00#8,
        0x00#8, 0#8, 0x00#8, 0#8] := by
  decide

theorem test_publish_executes :
    (after .publish nested).port.condition = .executing .publish { left := 2, due := false } := by decide

/-- The example's state with slot 20 staged inside slot 3, at a precedence, and a publish due. -/
def publishing (p : Fin 8) : State :=
  withPort (.executing .publish { left := 1, due := true })
    (withSlot20 { window 0x280000#24 16 p 2 0 0x00#8 with state := .staged })

theorem test_publishCompletion_conflict : replied (after .publishCompletion (publishing 2)) = [0x08#8, 20#8, 3#8] := by
  decide

theorem test_publishCompletion_live : ((after .publishCompletion (publishing 3)).slot 20).state = .live := by decide

theorem test_discard :
    replied (after .discard (withSlot20 { window 0x280000#24 16 3 2 0 0x00#8 with state := .marked })) = [0x00#8, 0x01#8] := by
  decide

theorem test_probe_proceeds :
    replied (after (.probe 0#8 1#8 4#8 0x200100#24) nested) = [0x00#8, 0x00#8, 0x03#8, 0x02#8, 0x03#8, 0x00#8] := by
  decide

theorem test_probe_straddle :
    replied (after (.probe 1#8 0#8 4#8 0x243FFE#24) nested) = [0x00#8, 0x03#8, 0xFF#8, 0xFF#8, 0xFF#8, 0xFF#8] := by
  decide

/-! ## Intercepts and settings -/

theorem test_interceptInfo :
    replied (after .interceptInfo caught) =
      [0x00#8, 0x01#8, 0x00#8, 0x02#8, 0xA4#8, 0x10#8, 0x24#8, 0#8, 0#8, 0#8, 0#8, 0x07#8, 0x00#8, 0x01#8] := by
  decide

theorem test_verdictPass : (after (.verdictPass 1#8 0#32) caught).readyList = [1] := by decide

theorem test_verdictRefuse :
    (after (.verdictRefuse 1#8 0#32) caught).answers = [{ master := 1, reason := .refused, data := 0#32 }] := by decide

theorem test_verdictSupply :
    (after (.verdictSupply 1#8 0x44332211#32) caught).answers =
      [{ master := 1, reason := .supplied, data := 0x00002211#32 }] := by
  decide

theorem test_setMissPolicy : ((after (.setMissPolicy 1#8 2#8 3#8) nested).device 2).refCount = 2 := by decide

theorem test_setLimits_out_of_range : replied (after (.setLimits 1#8 251#8) State.reset) = [0x02#8] := by decide

theorem test_setNotifyMask_opens_the_gate : (after (.setNotifyMask 0x1F#8) State.reset).gate = true := by decide

theorem test_readNotify : replied (after .readNotify State.reset) = [0x00#8, 0x00#8, 0x00#8, 0x00#8] := by decide

theorem test_clearNotify :
    (after (.clearNotify 0x01#8) { State.reset with flags := { CauseFlags.clear with intercept := true, fault := true } }).flags =
      { CauseFlags.clear with fault := true } := by
  decide

/-! ## Witnesses: for each statement with hypotheses, a state and operands that meet them -/

/-- A state with no soft reset running is lawful in its lists; the proof unfolds the law and decides it. -/
theorem nested_places : PlacesLaw nested := by unfold PlacesLaw; decide

theorem nested_references : ReferenceLaw State.reset := by unfold ReferenceLaw; decide

theorem ready_places : PlacesLaw ready := by unfold PlacesLaw; decide

theorem active_places : PlacesLaw (active onDevice) := by unfold PlacesLaw; decide

theorem held_places : PlacesLaw (held wakingDevice) := by unfold PlacesLaw; decide

theorem held_counts : HeldCountLaw (held wakingDevice) := by unfold HeldCountLaw; decide

theorem held_references : ReferenceLaw (held wakingDevice) := by unfold ReferenceLaw; decide

theorem caught_places : PlacesLaw caught := by unfold PlacesLaw; decide

theorem witness_StepRunsTheFrontCommand : State.reset.pending = [] := by decide

theorem witness_NothingIsTakenWhilePornIsLow :
    low.inReset = true ∧ (∀ x y z, Instr.replyByteRead ≠ .endOfPowerOnReset x y z) ∧
      (∀ x y z, Instr.tick ≠ .endOfPowerOnReset x y z) ∧ Instr.tick ≠ .replyByteRead := by
  decide

theorem witness_PowerOnResetDropsEverything : State.reset.inReset = false := by decide

theorem witness_EndOfPowerOnResetBuildsEveryRecord : low.inReset = true := by decide

theorem witness_BusResetDropsEveryClaim : State.reset.inReset = false ∧ ReferenceLaw State.reset :=
  ⟨by decide, nested_references⟩

theorem witness_SoftResetAnswersEveryClaim :
    ∃ s : State, s.inReset = false ∧ s.port.busy = false ∧ PlacesLaw s ∧ HeldCountLaw s ∧ ReferenceLaw s :=
  ⟨held wakingDevice, by decide, by decide, held_places, held_counts, held_references⟩

theorem witness_SoftResetCompletionRebuildsTheStartUpObjects :
    let s := withPort (.executing .softReset { left := 1, due := true }) State.reset
    s.inReset = false ∧ s.port.condition = .executing .softReset { left := 1, due := true } ∧
      (s.device 0).residency ≠ .on ∧
      ({ s with devices := s.devices.set 0 onDevice }.device 0).residency = .on := by
  decide

theorem witness_EventsThatCannotHappenChangeNothing :
    (ready.claim 1).isSome = true ∧ (active onDevice).cycle.isSome = true ∧ nested.readyList = [] ∧
      nested.cycle = none ∧ (∀ cy ∈ nested.cycle, cy.number ≠ 0) ∧ (∀ cy ∈ (active onDevice).cycle, cy.number ≠ 1) ∧
      timerDue (State.reset.device 0).wakeTimer = false ∧
      timerDue (State.reset.device 0).idleTimer = false ∧ (∀ c ∈ ready.claim 1, timerDue c.timer = false) ∧
      (State.reset.device 0).sense = .ignore ∧
      ((withD5 (offDevice true)).device 5).residency ≠ .on ∧ ((withD5 (offDevice true)).device 5).residency ≠ .parking := by
  decide

theorem witness_EventsThatCannotHappenChangeNothing_port :
    ∀ op t, State.reset.port.condition = .executing op t → t.due = false := by
  intro op t h; exact absurd h (by simp [State.reset, Port.idle])

theorem witness_ClaimsAnsweredAtArrival :
    ∃ s : State, s.inReset = false ∧ s.claim 0 = none ∧ PlacesLaw s ∧ softResetting s = false ∧
      -- the last byte at 1000000h, and at FFFFFFh
      0xFFFFFF < (0xFFFFFF#24).toNat + (widthOfCwid 1#2).bytes - 1 ∧
      (0xFFFFFE#24).toNat + (widthOfCwid 1#2).bytes - 1 ≤ 0xFFFFFF ∧
      -- two ends decided differently, two missing ends, a grant not given
      lookup s 0x23FFFF#24 ≠ lookup s (0x23FFFF#24 + BitVec.ofNat 24 ((widthOfCwid 1#2).bytes - 1)) ∧
      lookup s 0x300000#24 = none ∧ lookup s (0x300000#24 + BitVec.ofNat 24 ((widthOfCwid 1#2).bytes - 1)) = none ∧
      s.missPolicy = .abort ∧ lookup s 0xFFFFFE#24 = some 0 ∧
      lookup s (0xFFFFFE#24 + BitVec.ofNat 24 ((widthOfCwid 1#2).bytes - 1)) = some 0 ∧
      (s.slot 0).permissions.getLsbD (2 * (0 : Master).val + if Direction.write = .write then 1 else 0) = false :=
  ⟨nested, by decide, by decide, nested_places, by decide, by decide, by decide, by decide, by decide, by decide,
    by decide, by decide, by decide, by decide⟩

theorem witness_ClaimsAnsweredAtArrival_reset :
    ∃ s : State, s.inReset = false ∧ s.claim 0 = none ∧ PlacesLaw s ∧ softResetting s = true :=
  ⟨withPort (.executing .softReset { left := 2, due := false }) nested, by decide, by decide,
    by unfold PlacesLaw; decide, by decide⟩

theorem witness_LookupFindsTheHighestCandidate : EqualPrecedenceLaw nested := by unfold EqualPrecedenceLaw; decide +kernel

/-- The example's state with another watch setting for slot 7. -/
def watching (x : Watch) : State :=
  { nested with slots := nested.slots.set 7 { nested.slot 7 with watch := x, permissions := 0xFF#8 } }

theorem witness_WatchedClaimsEnterTheInterceptList :
    let s := watching .writes
    s.inReset = false ∧ s.claim 1 = none ∧ softResetting s = false ∧
      (0x2410A4#24).toNat + (widthOfCwid 1#2).bytes - 1 ≤ 0xFFFFFF ∧ lookup s 0x2410A4#24 = some 7 ∧
      lookup s (0x2410A4#24 + BitVec.ofNat 24 ((widthOfCwid 1#2).bytes - 1)) = some 7 ∧
      (s.slot 7).permissions.getLsbD (2 * (1 : Master).val + if Direction.write = .write then 1 else 0) = true ∧
      (s.slot 7).watch = .writes ∧ ((watching .all).slot 7).watch = .all := by
  decide

theorem witness_BoundClaimsMakeTheirResidencyStep :
    let s := watching .writes
    s.inReset = false ∧ s.claim 1 = none ∧ softResetting s = false ∧
      (0x2410A4#24).toNat + (widthOfCwid 1#2).bytes - 1 ≤ 0xFFFFFF ∧ lookup s 0x2410A4#24 = some 7 ∧
      lookup s (0x2410A4#24 + BitVec.ofNat 24 ((widthOfCwid 1#2).bytes - 1)) = some 7 ∧
      (s.slot 7).permissions.getLsbD (2 * (1 : Master).val + if Direction.read = .write then 1 else 0) = true ∧
      (s.slot 7).watch = .writes ∧ (nested.slot 7).watch = .off ∧
      { nested with missPolicy := .fallback }.missPolicy = .fallback ∧
      lookup { nested with missPolicy := .fallback } 0x300000#24 = none := by
  decide

theorem witness_ResidencyStepFollowsTheDevice :
    (1 : Master) ∉ nested.interceptList ∧ (1 : Master) ∉ nested.holdList ∧ (1 : Master) ∉ nested.readyList ∧
      nested.cycle.map DeviceCycle.master ≠ some (1 : Master) ∧ (nested.device readAccess.device).residency = .on ∧
      ((withD5 wakingDevice).device 5).residency = .waking ∧ ((withD5 parkingDevice).device 5).residency = .parking ∧
      ((withD5 (offDevice true)).device 5).residency = .off ∧ ((withD5 (offDevice true)).device 5).autoWake = true ∧
      ((withD5 (offDevice false)).device 5).autoWake = false ∧ ((withD5 faultDevice).device 5).residency = .fault := by
  decide

theorem active_cycleNumber : CycleNumberLaw (active onDevice) := by unfold CycleNumberLaw; decide

theorem witness_GrantTakesTheOldestReadyClaim :
    ready.inReset = false ∧ ready.cycle = none ∧ ready.readyList = [1] ∧ (ready.claim 1).isSome = true := by decide

theorem witness_CompletionAnswersDone :
    ∃ (s : State) (cy : DeviceCycle) (c : Claim), s.inReset = false ∧ PlacesLaw s ∧ s.cycle = some cy ∧
      s.claim cy.master = some c ∧ (s.device c.access.device).residency ≠ .parking :=
  ⟨active onDevice, cycleOf 0 1 readAccess, { access := readAccess, phase := .active, timer := none, verdictData := none },
    by decide, active_places, by decide, by decide, by decide⟩

theorem witness_LastCompletionEndsThePark :
    ∃ (s : State) (cy : DeviceCycle) (c : Claim), s.inReset = false ∧ PlacesLaw s ∧ s.cycle = some cy ∧
      s.claim cy.master = some c ∧ (s.device c.access.device).residency = .parking ∧
      s.readyList.any (boundTo s c.access.device) = false ∧ (s.device c.access.device).heldCount = 0 :=
  ⟨active parkingDevice, cycleOf 0 1 readAccess,
    { access := readAccess, phase := .active, timer := none, verdictData := none },
    by decide, by unfold PlacesLaw; decide, by decide, by decide, by decide, by decide, by decide⟩

/-- A second claim for D5 beside M1's ACTIVE one, READY or HELD, while D5 is PARKING. -/
def parkingWith (p : Phase) : State :=
  let s := active { parkingDevice with heldCount := if p = .held then 1 else 0 }
  { s with
    claims := s.claims.set 2 (some
      { access := readAccess, phase := p, timer := if p = .held then dueTimer else none, verdictData := none })
    readyList := if p = .ready then [2] else []
    holdList := if p = .held then [2] else [] }

theorem witness_LastCompletionEndsThePark_more :
    PlacesLaw (parkingWith .ready) ∧ (parkingWith .ready).readyList.any (boundTo (parkingWith .ready) 5) = true :=
  ⟨by unfold PlacesLaw; decide, by decide⟩

theorem witness_LastCompletionEndsThePark_held :
    PlacesLaw (parkingWith .held) ∧ (parkingWith .held).readyList.any (boundTo (parkingWith .held) 5) = false ∧
      ((parkingWith .held).device 5).heldCount ≠ 0 :=
  ⟨by unfold PlacesLaw; decide, by decide, by decide⟩

theorem witness_HoldExpiryAnswersHoldTimeout :
    ∃ (s : State) (c : Claim), s.inReset = false ∧ PlacesLaw s ∧ s.claim 1 = some c ∧ c.phase = .held ∧
      timerDue c.timer = true :=
  ⟨held wakingDevice, { access := readAccess, phase := .held, timer := dueTimer, verdictData := none },
    by decide, held_places, by decide, by decide, by decide⟩

theorem witness_InterceptExpirySetsTheMarker :
    ∃ (s : State) (c : Claim), s.inReset = false ∧ PlacesLaw s ∧ s.claim 1 = some c ∧ c.phase = .intercept ∧
      timerDue c.timer = true :=
  ⟨caught, { access := readAccess, phase := .intercept, timer := dueTimer, verdictData := none },
    by decide, caught_places, by decide, by decide, by decide⟩

theorem witness_TickReachesEveryTimer : State.reset.inReset = false ∧ 0 < 1 ∧ 0 < 250 ∧ 249 < 250 := by decide

theorem witness_WakeExpiryDecidesOnOrFault :
    ∃ s : State, s.inReset = false ∧ PlacesLaw s ∧ ReferenceLaw s ∧ (s.device 5).residency = .waking ∧
      timerDue (s.device 5).wakeTimer = true ∧ (s.device 5).sense = .high :=
  ⟨held wakingDevice, by decide, held_places, held_references, by decide, by decide, by decide⟩

theorem witness_IdleExpiryParksAnUnusedDevice :
    let s := withD5 { onDevice with idleTimer := dueTimer }
    let t := { ready with devices := ready.devices.set 5 { onDevice with idleTimer := dueTimer } }
    s.inReset = false ∧ (s.device 5).residency = .on ∧ timerDue (s.device 5).idleTimer = true ∧
      (∀ m, s.claim m = none) ∧ t.inReset = false ∧ (t.device 5).residency = .on ∧
      timerDue (t.device 5).idleTimer = true ∧ (1 : Master) ∈ t.readyList ∧ (t.claim 1).isSome = true ∧
      t.deviceOf 1 = some 5 := by
  decide

theorem witness_DepartureFaultsTheDevice :
    ∃ s : State, s.inReset = false ∧ PlacesLaw s ∧ ReferenceLaw s ∧ (s.device 5).residency = .on ∧
      (s.device 5).sense ≠ .ignore ∧ inConformity s 5 = true :=
  ⟨ready, by decide, ready_places, by unfold ReferenceLaw; decide, by decide, by decide, by decide⟩

theorem witness_DepartureFaultsTheDevice_parking :
    ∃ s : State, s.inReset = false ∧ PlacesLaw s ∧ ReferenceLaw s ∧ (s.device 5).residency = .parking ∧
      (s.device 5).sense ≠ .ignore ∧ inConformity s 5 = true :=
  ⟨active parkingDevice, by decide, by unfold PlacesLaw; decide, by unfold ReferenceLaw; decide, by decide, by decide,
    by decide⟩

/-! ### The port -/

theorem witness_CommandByteOpensARecord :
    State.reset.inReset = false ∧ State.reset.port.busy = false ∧
      (withPort (.collecting .openWindow [0#8]) State.reset).port.busy = false ∧
      CommandCode.ofByte 0x62#8 = some .clearNotify ∧ 0 < CommandCode.clearNotify.paramCount ∧
      CommandCode.ofByte 0x7E#8 = none := by
  decide

theorem witness_CommandByteCollidesWhileExecuting :
    let s := withPort (.executing .publish { left := 2, due := false }) State.reset
    s.inReset = false ∧ s.port.busy = true := by
  decide

theorem witness_DataAccessOutOfPlaceIsOrphan :
    State.reset.inReset = false ∧ (∀ code params, State.reset.port.condition ≠ .collecting code params) ∧
      (∀ x rest, State.reset.port.condition ≠ .replying (x :: rest)) := by
  refine ⟨by decide, ?_, ?_⟩ <;> intros <;> simp [State.reset, Port.idle]

theorem witness_ParameterByteIsCollected :
    let s := withPort (.collecting .setLimits []) State.reset
    s.inReset = false ∧ s.port.condition = .collecting .setLimits [] ∧
      ([] : List Byte).length + 1 < CommandCode.setLimits.paramCount := by
  decide

theorem witness_ParameterByteIsCollected_last :
    let s := withPort (.collecting .setLimits [0x07#8]) State.reset
    s.inReset = false ∧ s.port.condition = .collecting .setLimits [0x07#8] ∧
      [(0x07#8 : Byte)].length + 1 = CommandCode.setLimits.paramCount := by
  decide

theorem witness_ParameterByteIsCollected_whole :
    State.reset.inReset = false ∧ State.reset.port.busy = false ∧
      commandBytes (.setLimits 7#8 5#8) = some (.setLimits, [7#8, 5#8]) := by
  decide

theorem witness_StatusByteAndMirqFollowTheState : State.reset.inReset = false := by decide

theorem witness_ReplyBytesAreReadInOrder :
    let s := withPort (.replying [0x00#8]) State.reset
    s.inReset = false ∧ s.port.condition = .replying [0x00#8] := by
  decide

theorem witness_WholeCommandIsItsBytes :
    commandBytes (.openRelocatedWindow 20#8 0x280000#24 16#8 3#8 2#8 0#8 0xFF#8 0#8 0x010203#24) =
      some (.openRelocatedWindow,
        [20#8, 0x00#8, 0x00#8, 0x28#8, 16#8, 3#8, 2#8, 0#8, 0xFF#8, 0#8, 0x03#8, 0x02#8, 0x01#8]) := by
  decide

/-! ### Device commands -/

theorem witness_IdentifyAndReadDeviceReport :
    State.reset.inReset = false ∧ State.reset.port.busy = false ∧ (15#8 : Byte).toNat = (15 : Device).val ∧
      16 ≤ (16#8 : Byte).toNat := by
  decide

theorem witness_DefineDeviceWritesTheParameters :
    nested.inReset = false ∧ nested.port.busy = false ∧ (15#8 : Byte).toNat = (15 : Device).val ∧
      (nested.device 15).residency = .absent ∧ ((withD5 (offDevice true)).device 5).residency = .off ∧
      (nested.device 5).residency ≠ .absent ∧ (nested.device 5).residency ≠ .off ∧
      (15#8 : Byte).toNat < 16 ∧ 1 ≤ (250#8 : Byte).toNat ∧ (250#8 : Byte).toNat ≤ 250 ∧
      (60000#16 : BitVec 16).toNat ≤ 60000 ∧ (5#8 : Byte).toNat < 6 ∧ ¬ (6#8 : Byte).toNat < 6 := by
  decide

theorem witness_ForgetAndClearFaultFollowTheResidency :
    nested.inReset = false ∧ nested.port.busy = false ∧ (5#8 : Byte).toNat = (5 : Device).val ∧
      ((withD5 (offDevice true)).device 5).residency = .off ∧ 0 < ((withD5 (offDevice true)).device 5).refCount ∧
      ((withD5 { faultDevice with refCount := 0 }).device 5).residency = .fault ∧
      ((withD5 { faultDevice with refCount := 0 }).device 5).refCount = 0 ∧
      (nested.device 5).residency ≠ .off ∧ (nested.device 5).residency ≠ .fault ∧ 16 ≤ (16#8 : Byte).toNat := by
  decide

theorem witness_WakeDeviceFollowsTheResidency :
    nested.inReset = false ∧ nested.port.busy = false ∧ (5#8 : Byte).toNat = (5 : Device).val ∧
      ((withD5 (offDevice true)).device 5).residency = .off ∧ (nested.device 5).residency = .on ∧
      ((withD5 wakingDevice).device 5).residency = .waking ∧ ((withD5 parkingDevice).device 5).residency = .parking ∧
      ((withD5 faultDevice).device 5).residency = .fault ∧ (nested.device 15).residency = .absent ∧
      16 ≤ (16#8 : Byte).toNat := by
  decide

theorem witness_ParkDeviceFollowsTheResidency :
    nested.inReset = false ∧ nested.port.busy = false ∧ (5#8 : Byte).toNat = (5 : Device).val ∧
      (nested.device 5).residency = .on ∧ (∀ m, nested.claim m = none) ∧ (ready.device 5).residency = .on ∧
      (1 : Master) ∈ ready.readyList ∧ ready.deviceOf 1 = some 5 ∧ ((withD5 wakingDevice).device 5).heldCount = 0 ∧
      0 < ((held wakingDevice).device 5).heldCount ∧ ((held wakingDevice).device 5).residency = .waking := by
  decide

/-! ### Window commands -/

theorem witness_OpenFillsAFreeSlot :
    (63#8 : Byte).toNat = (63 : SlotId).val ∧ 8 ≤ (20#8 : Byte).toNat ∧ (20#8 : Byte).toNat ≤ 20 ∧
      (7#8 : Byte).toNat = (7 : Fin 8).val ∧ (5#8 : Byte).toNat = (5 : Device).val ∧
      (15#8 : Byte).toNat = (15 : Fin 16).val ∧ (2#8 : Byte).toNat < 8 ∧ (2#8 : Byte).toNat % 4 ≠ 3 ∧
      (6#8 : Byte).toNat < 8 ∧ 4 ≤ (6#8 : Byte).toNat ∧
      nested.inReset = false ∧ nested.port.busy = false ∧ (nested.slot 63).state = .free ∧
      (nested.device 5).residency ≠ .absent := by
  decide

theorem witness_OpenFillsAFreeSlot_aligned :
    (0x400000#24).toNat % 2 ^ (20#8 : Byte).toNat = 0 ∧
      ∀ r ∈ some (0x100000#24 : Address), r.toNat % 2 ^ (20#8 : Byte).toNat = 0 := by
  simp

theorem witness_OpenFillsAFreeSlot_view :
    ∀ m, (nested.slot m).inView = true → (window 0x400000#24 20 7 5 15 0xFF#8).conflicts (nested.slot m) = false := by
  decide

theorem witness_OpenIsRefusedInOrder :
    nested.inReset = false ∧ nested.port.busy = false ∧ 64 ≤ (64#8 : Byte).toNat ∧
      -- one window in range for each of SLOT_IN_USE, NO_DEVICE and OVERLAP, and one out of range
      (63#8 : Byte).toNat < 64 ∧ (16#8 : Byte).toNat ≤ 20 ∧ (0x280000#24).toNat % 2 ^ (16#8 : Byte).toNat = 0 ∧
      (nested.slot 7).state ≠ .free ∧ (nested.slot 63).state = .free ∧ (nested.device 15).residency = .absent ∧
      (nested.device 2).residency ≠ .absent ∧ (nested.slot 3).inView = true ∧
      (nested.slot 3).precedence.val = (2#8 : Byte).toNat ∧
      (0x280000#24).toNat ≤ (nested.slot 3).base.toNat + 2 ^ (nested.slot 3).size - 1 ∧
      (nested.slot 3).base.toNat ≤ (0x280000#24).toNat + 2 ^ (16#8 : Byte).toNat - 1 ∧
      (0x280100#24).toNat % 2 ^ (16#8 : Byte).toNat ≠ 0 := by
  decide

/-- The example's state with a LIVE slot 20 inside slot 3, at precedence 3. -/
def overlapping (st : SlotState) : State := withSlot20 { window 0x280000#24 16 3 2 0 0x00#8 with state := st }

theorem witness_AmendRewritesFourFields :
    let s := overlapping .live
    s.inReset = false ∧ s.port.busy = false ∧ (20#8 : Byte).toNat = (20 : SlotId).val ∧ (7#8 : Byte).toNat < 8 ∧
      (15#8 : Byte).toNat < 16 ∧ (2#8 : Byte).toNat < 3 ∧ (nested.slot 63).state = .free ∧ (s.slot 20).state = .live ∧
      (0#8 : Byte).toNat = (s.slot 20).generation.val ∧ ¬ ((1#8 : Byte) = 0xFF#8 ∨ (1#8 : Byte).toNat = (s.slot 20).generation.val) ∧
      ((overlapping .marked).slot 20).state = .marked ∧ (3 : SlotId) ≠ 20 ∧ (s.slot 3).inView = true ∧
      (2#8 : Byte).toNat = (s.slot 3).precedence.val ∧ (s.slot 20).shares (s.slot 3) = true ∧
      ∀ m, (s.slot m).precedence.val ≠ (7#8 : Byte).toNat := by
  decide

theorem witness_RetireFollowsTheSlotState :
    nested.inReset = false ∧ nested.port.busy = false ∧ (63#8 : Byte).toNat = (63 : SlotId).val ∧
      (1#8 : Byte).toNat < 2 ∧ 2 ≤ (2#8 : Byte).toNat ∧ (nested.slot 63).state = .free ∧
      (nested.slot 7).state = .live ∧ (0#8 : Byte).toNat = (nested.slot 7).generation.val ∧ (nested.slot 7).bound = 0 ∧
      ¬ ((1#8 : Byte) = 0xFF#8 ∨ (1#8 : Byte).toNat = (nested.slot 7).generation.val) ∧
      0 < (ready.slot 7).bound ∧ (ready.slot 7).state = .live ∧ ((overlapping .marked).slot 20).state = .marked ∧
      ((overlapping .staged).slot 20).state = .staged ∧ ((overlapping .draining).slot 20).state = .draining := by
  decide

theorem witness_ReadWindowReportsTheSlot :
    nested.inReset = false ∧ nested.port.busy = false ∧ (63#8 : Byte).toNat = (63 : SlotId).val ∧
      (1#8 : Byte).toNat < 2 ∧ 64 ≤ (64#8 : Byte).toNat := by
  decide

theorem witness_PublishSwitchesTheView :
    nested.inReset = false ∧ nested.port.busy = false ∧
      (publishing 3).port.condition = .executing .publish { left := 1, due := true } ∧
      (publishing 3).inReset = false := by
  decide

theorem witness_PublishSwitchesTheView_view :
    ∃ s : State, s.inReset = false ∧ ReferenceLaw s ∧
      s.port.condition = .executing .publish { left := 1, due := true } ∧ ∀ n m, n ≠ m → (s.slot n).state = .staged →
      (s.slot m).state = .live ∨ (s.slot m).state = .staged → (s.slot n).conflicts (s.slot m) = false :=
  ⟨{ publishing 3 with devices := (publishing 3).devices.set 2 { onDevice with refCount := 2 } },
    by decide, by unfold ReferenceLaw; decide, by decide, by decide +kernel⟩

theorem witness_PublishReportsTheFirstConflict :
    let s := publishing 2
    s.inReset = false ∧ s.port.condition = .executing .publish { left := 1, due := true } ∧
      (s.slot 20).state = .staged ∧ (s.slot 3).state = .live ∧ (20 : SlotId) ≠ 3 ∧
      (s.slot 20).conflicts (s.slot 3) = true ∧ (∀ k, k < 20 → (s.slot k).state ≠ .staged) ∧
      (∀ j, j < 3 → 20 ≠ j → (s.slot j).state = .live ∨ (s.slot j).state = .staged →
        (s.slot 20).conflicts (s.slot j) = false) := by
  decide

theorem witness_DiscardAbandonsThePendingChanges :
    ∃ s : State, s.inReset = false ∧ s.port.busy = false ∧ ReferenceLaw s ∧ (s.slot 20).state = .staged :=
  ⟨{ overlapping .staged with devices := (overlapping .staged).devices.set 2 { onDevice with refCount := 2 } },
    by decide, by decide, by unfold ReferenceLaw; decide, by decide⟩

theorem witness_ProbeReportsTheDecision :
    nested.inReset = false ∧ nested.port.busy = false ∧ (3#8 : Byte).toNat = (3 : Master).val ∧
      (1#8 : Byte).toNat < 2 ∧ 4 ≤ (4#8 : Byte).toNat ∧
      (0xFFFFFC#24).toNat + (4#8 : Byte).toNat - 1 ≤ 0xFFFFFF ∧ ¬ (0xFFFFFD#24).toNat + (4#8 : Byte).toNat - 1 ≤ 0xFFFFFF ∧
      lookup nested 0xFFFFFC#24 = some 0 ∧ lookup nested (0xFFFFFC#24 + BitVec.ofNat 24 ((4#8 : Byte).toNat - 1)) = some 0 ∧
      lookup nested 0x300000#24 = none ∧ nested.missPolicy = .abort := by
  decide

/-! ### Intercepts and settings -/

theorem witness_InterceptInfoReportsTheHead :
    caught.inReset = false ∧ caught.port.busy = false ∧ caught.interceptList = [1] ∧
      caught.claim 1 = some { access := readAccess, phase := .intercept, timer := dueTimer, verdictData := none } ∧
      readAccess.binding = .slot 7 0 ∧ nested.interceptList = [] := by
  decide

theorem witness_VerdictsAreAppliedToCaughtClaims :
    ∃ (s : State) (c : Claim), s.inReset = false ∧ s.port.busy = false ∧ PlacesLaw s ∧
      (1#8 : Byte).toNat = (1 : Master).val ∧ s.claim 1 = some c ∧ c.phase = .intercept :=
  ⟨caught, { access := readAccess, phase := .intercept, timer := dueTimer, verdictData := none },
    by decide, by decide, caught_places, by decide, by decide, by decide⟩

theorem witness_VerdictsWithoutACaughtClaim :
    nested.inReset = false ∧ nested.port.busy = false ∧ (3#8 : Byte).toNat = (3 : Master).val ∧
      (3 : Master) ∉ nested.interceptList ∧ 4 ≤ (4#8 : Byte).toNat ∧
      Instr.verdictSupply 3#8 0#32 ∈ [Instr.verdictPass 3#8 0#32, .verdictRefuse 3#8 0#32, .verdictSupply 3#8 0#32] := by
  decide

theorem witness_VerdictsWithoutACaughtClaim_verdict :
    let s := withPort (.collecting .verdict [0#8, 3#8, 0#8, 0#8, 0#8]) nested
    s.inReset = false ∧ s.port.condition = .collecting .verdict [0#8, 3#8, 0#8, 0#8, 0#8] ∧ 3 ≤ (3#8 : Byte).toNat := by
  decide

theorem test_verdict_byte_out_of_range :
    replied (after (.parameterByte 0#8) (withPort (.collecting .verdict [1#8, 3#8, 0#8, 0#8, 0#8]) caught)) = [0x02#8] := by
  decide

theorem witness_SetMissPolicyMovesTheReference :
    State.reset.inReset = false ∧ State.reset.port.busy = false ∧ (1#8 : Byte).toNat < 2 ∧ 2 ≤ (2#8 : Byte).toNat ∧
      (15#8 : Byte).toNat = (15 : Device).val ∧ (15#8 : Byte).toNat = (15 : Fin 16).val ∧
      (State.reset.device 15).residency = .absent ∧ (State.reset.device 0).residency ≠ .absent :=
  by decide

theorem witness_SetMissPolicyMovesTheReference_law : ReferenceLaw State.reset := nested_references

theorem witness_SetLimitsWritesBothOrNeither :
    State.reset.inReset = false ∧ State.reset.port.busy = false ∧
      ((1 ≤ (1#8 : Byte).toNat ∧ (1#8 : Byte).toNat ≤ 250) ∧ (1 ≤ (250#8 : Byte).toNat ∧ (250#8 : Byte).toNat ≤ 250)) ∧
      ¬ (1 ≤ (251#8 : Byte).toNat ∧ (251#8 : Byte).toNat ≤ 250) ∧ ¬ 1 ≤ (0#8 : Byte).toNat := by
  decide

theorem witness_NotifyCommandsActOnMaskFlagsAndGate :
    State.reset.inReset = false ∧ State.reset.port.busy = false ∧ (31#8 : Byte).toNat < 32 ∧ 32 ≤ (32#8 : Byte).toNat := by
  decide

/-! ### The laws -/

/-- The state after reset with a tick waiting obeys the laws, and its step answers a next state. -/
def waiting : State := { State.reset with pending := [.tick] }

theorem witness_StepKeeps : ∃ t, step waiting = .next t := ⟨after .tick State.reset, rfl⟩

theorem witness_StepKeepsSlotsShaped : SlotsShaped waiting := by unfold SlotsShaped Slot.Shaped; decide

theorem witness_StepKeepsEqualPrecedence : EqualPrecedenceLaw waiting := by unfold EqualPrecedenceLaw; decide +kernel

theorem witness_StepKeepsTheReferences : ReferenceLaw waiting ∧ NamedDeviceLaw waiting := by
  unfold ReferenceLaw NamedDeviceLaw; decide

theorem waiting_places : PlacesLaw waiting := by unfold PlacesLaw; decide

theorem witness_StepKeepsEveryClaimInOnePlace : PlacesLaw waiting ∧ CycleNumberLaw waiting :=
  ⟨waiting_places, by unfold CycleNumberLaw; decide⟩

theorem witness_StepKeepsTheBoundCounts : PlacesLaw waiting ∧ BoundLaw waiting := by
  unfold PlacesLaw BoundLaw; decide

theorem witness_StepKeepsClaimsAndPortShaped : ClaimsShaped waiting ∧ PortLaw waiting := by
  refine ⟨⟨?_, by decide, by decide⟩, trivial⟩
  have none : ∀ m, waiting.claim m = none := by decide
  intro m c h
  simp [none m] at h

theorem witness_StepKeepsTheDevicesLawful : DevicesLawful waiting ∧ ConformityLaw waiting := by
  unfold DevicesLawful DeviceRecord.Lawful ConformityLaw; decide

theorem witness_StepKeepsClaimsWithTheirDevices : PlacesLaw waiting ∧ HeldCountLaw waiting ∧ ResidencyLaw waiting := by
  refine ⟨waiting_places, by unfold HeldCountLaw; decide, ?_⟩
  have none : ∀ m, waiting.claim m = none := by decide
  intro m c h
  simp [none m] at h

theorem witness_EveryClaimReceivesOneAnswer :
    PlacesLaw (active onDevice) ∧ exec (.completion { cycle := 0, dd := 0#32 }) (active onDevice) = .next (after (.completion { cycle := 0, dd := 0#32 }) (active onDevice)) :=
  ⟨active_places, rfl⟩

end Sys2Proof.Tests
end

section
/-! SUPPORT. The command decoder, its case split made once: a property of every state that a command leaves for its
reply is a property of every record that the decoder runs. -/

namespace Sys2Proof.Machine

/-! ## The decoder -/

/-- What the decoder can do with a record: one command of Table 10-1, or BAD_VALUE for a record of the wrong length. -/
structure DecoderKeeps (Q : State → Prop) (s : State) : Prop where
  bad : Q (replyResult .badValue s)
  identify : Q (cmdIdentify s)
  defineDevice : ∀ d w l o, Q (cmdDefineDevice d w l o s)
  forgetDevice : ∀ d, Q (cmdForgetDevice d s)
  wakeDevice : ∀ d, Q (cmdWakeDevice d s)
  parkDevice : ∀ d, Q (cmdParkDevice d s)
  clearFault : ∀ d, Q (cmdClearFault d s)
  readDevice : ∀ d, Q (cmdReadDevice d s)
  openWindow : ∀ n b k p d w g o r, Q (cmdOpen n b k p d w g o r s)
  amendWindow : ∀ n g p w x v, Q (cmdAmendWindow n g p w x v s)
  retireWindow : ∀ n g x, Q (cmdRetireWindow n g x s)
  readWindow : ∀ n c, Q (cmdReadWindow n c s)
  publish : Q (cmdPublish s)
  discard : Q (cmdDiscard s)
  probe : ∀ m dir w a, Q (cmdProbe m dir w a s)
  interceptInfo : Q (cmdInterceptInfo s)
  verdict : ∀ m v x, Q (cmdVerdictByte m v x s)
  setMissPolicy : ∀ p d w, Q (cmdSetMissPolicy p d w s)
  setLimits : ∀ h i, Q (cmdSetLimits h i s)
  setNotifyMask : ∀ f, Q (cmdSetNotifyMask f s)
  readNotify : Q (cmdReadNotify s)
  clearNotify : ∀ f, Q (cmdClearNotify f s)
  softReset : Q (cmdSoftReset s)

/-- The decoder's case split, made once: what every command does and a refusal does, every record does. -/
theorem runRecord_of {Q : State → Prop} {s : State} (k : DecoderKeeps Q s) (code : CommandCode) (params : List Byte) :
    Q (runRecord code params s) := by
  cases code with
  | identify => rcases params with _ | ⟨_, _⟩; exacts [k.identify, k.bad]
  | defineDevice =>
    rcases params with _ | ⟨_, _ | ⟨_, _ | ⟨_, _ | ⟨_, _ | ⟨_, _ | ⟨_, _⟩⟩⟩⟩⟩⟩
    iterate 5 exact k.bad
    exacts [k.defineDevice .., k.bad]
  | forgetDevice => rcases params with _ | ⟨_, _ | ⟨_, _⟩⟩; exacts [k.bad, k.forgetDevice .., k.bad]
  | wakeDevice => rcases params with _ | ⟨_, _ | ⟨_, _⟩⟩; exacts [k.bad, k.wakeDevice .., k.bad]
  | parkDevice => rcases params with _ | ⟨_, _ | ⟨_, _⟩⟩; exacts [k.bad, k.parkDevice .., k.bad]
  | clearFault => rcases params with _ | ⟨_, _ | ⟨_, _⟩⟩; exacts [k.bad, k.clearFault .., k.bad]
  | readDevice => rcases params with _ | ⟨_, _ | ⟨_, _⟩⟩; exacts [k.bad, k.readDevice .., k.bad]
  | openWindow =>
    rcases params with _ | ⟨_, _ | ⟨_, _ | ⟨_, _ | ⟨_, _ | ⟨_, _ | ⟨_, _ | ⟨_, _ | ⟨_, _ | ⟨_, _ | ⟨_, _ |
      ⟨_, _⟩⟩⟩⟩⟩⟩⟩⟩⟩⟩⟩
    iterate 10 exact k.bad
    exacts [k.openWindow .., k.bad]
  | openRelocatedWindow =>
    rcases params with _ | ⟨_, _ | ⟨_, _ | ⟨_, _ | ⟨_, _ | ⟨_, _ | ⟨_, _ | ⟨_, _ | ⟨_, _ | ⟨_, _ | ⟨_, _ |
      ⟨_, _ | ⟨_, _ | ⟨_, _ | ⟨_, _⟩⟩⟩⟩⟩⟩⟩⟩⟩⟩⟩⟩⟩⟩
    iterate 13 exact k.bad
    exacts [k.openWindow .., k.bad]
  | amendWindow =>
    rcases params with _ | ⟨_, _ | ⟨_, _ | ⟨_, _ | ⟨_, _ | ⟨_, _ | ⟨_, _ | ⟨_, _⟩⟩⟩⟩⟩⟩⟩
    iterate 6 exact k.bad
    exacts [k.amendWindow .., k.bad]
  | retireWindow =>
    rcases params with _ | ⟨_, _ | ⟨_, _ | ⟨_, _ | ⟨_, _⟩⟩⟩⟩
    exacts [k.bad, k.bad, k.bad, k.retireWindow .., k.bad]
  | readWindow => rcases params with _ | ⟨_, _ | ⟨_, _ | ⟨_, _⟩⟩⟩; exacts [k.bad, k.bad, k.readWindow .., k.bad]
  | publish => rcases params with _ | ⟨_, _⟩; exacts [k.publish, k.bad]
  | discard => rcases params with _ | ⟨_, _⟩; exacts [k.discard, k.bad]
  | probe =>
    rcases params with _ | ⟨_, _ | ⟨_, _ | ⟨_, _ | ⟨_, _ | ⟨_, _ | ⟨_, _ | ⟨_, _⟩⟩⟩⟩⟩⟩⟩
    iterate 6 exact k.bad
    exacts [k.probe .., k.bad]
  | interceptInfo => rcases params with _ | ⟨_, _⟩; exacts [k.interceptInfo, k.bad]
  | verdict =>
    rcases params with _ | ⟨_, _ | ⟨_, _ | ⟨_, _ | ⟨_, _ | ⟨_, _ | ⟨_, _ | ⟨_, _⟩⟩⟩⟩⟩⟩⟩
    iterate 6 exact k.bad
    exacts [k.verdict .., k.bad]
  | setMissPolicy =>
    rcases params with _ | ⟨_, _ | ⟨_, _ | ⟨_, _ | ⟨_, _⟩⟩⟩⟩
    exacts [k.bad, k.bad, k.bad, k.setMissPolicy .., k.bad]
  | setLimits => rcases params with _ | ⟨_, _ | ⟨_, _ | ⟨_, _⟩⟩⟩; exacts [k.bad, k.bad, k.setLimits .., k.bad]
  | setNotifyMask => rcases params with _ | ⟨_, _ | ⟨_, _⟩⟩; exacts [k.bad, k.setNotifyMask .., k.bad]
  | readNotify => rcases params with _ | ⟨_, _⟩; exacts [k.readNotify, k.bad]
  | clearNotify => rcases params with _ | ⟨_, _ | ⟨_, _⟩⟩; exacts [k.bad, k.clearNotify .., k.bad]
  | softReset => rcases params with _ | ⟨_, _⟩; exacts [k.softReset, k.bad]

/-! ## Names for what the commands do -/

/-- The directory after DISCARD (R126). -/
def discardAll (s : State) : State :=
  { s with slots := mapTable (fun _ w => w.discard) s.slots
           devices := dropReferences (fun w => w.state == .staged) s }

theorem cmdDiscard_eq (s : State) : cmdDiscard s =
    reply [ResultCode.ok.toByte, countByte (countSlots Slot.pendingChange s.slots)] (discardAll s) := rfl

/-- A slot after an amendment (R116, R117). -/
def Slot.amend (w : Slot) (p : Fin 8) (waits : Fin 16) (permissions : Byte) (watch : Watch) : Slot :=
  { w with precedence := p, waits := waits, permissions := permissions, watch := watch, generation := w.generation + 1 }

theorem amendSlot_taken {s : State} {n : SlotId} {e : Byte} {p : Fin 8} (waits : Fin 16) (permissions : Byte)
    (watch : Watch) (h : amendResult s n e p = .ok) : amendSlot n e p waits permissions watch s =
      replyGeneration .ok (countByte ((s.slot n).generation + 1).val)
        (s.setSlot n ((s.slot n).amend p waits permissions watch)) := by
  rw [amendSlot, if_pos h]; rfl

/-- The state after an open that is taken (R114, R115). -/
def opened (q : OpenRequest) (s : State) : State :=
  addReference q.device (s.setSlot q.slot (q.fill (s.slot q.slot)))

theorem openSlot_taken {s : State} {q : OpenRequest} (h : openResult s q = .ok) : openSlot q s =
    replyGeneration .ok (countByte ((s.slot q.slot).generation + 1).val) (opened q s) := by
  rw [openSlot, if_pos h]; rfl

/-- A device record after FORGET DEVICE is taken (R61). -/
def DeviceRecord.forget (r : DeviceRecord) : DeviceRecord := { r with residency := .absent, faultCause := .none }

/-- The parameters of an open in range and aligned (R165, check 1). -/
def OpenInRange (b : Byte) (base : Address) (k p d w o : Byte) (r : Option Address) : Prop :=
  b.toNat < 64 ∧ (8 ≤ k.toNat ∧ k.toNat ≤ 20) ∧ p.toNat < 8 ∧ d.toNat < 16 ∧ w.toNat < 16 ∧
    (o.toNat < 8 ∧ o.toNat % 4 ≠ 3) ∧ base.toNat % 2 ^ k.toNat = 0 ∧ ∀ x ∈ r, x.toNat % 2 ^ k.toNat = 0

/-- An open that passes its range checks has its parameters in range, and its addresses and its size as sent. -/
theorem readOpen_inRange {b : Byte} {base : Address} {k p d w g o : Byte} {r : Option Address} {q : OpenRequest}
    (h : readOpen b base k p d w g o r = some q) :
    OpenInRange b base k p d w o r ∧ q.base = base ∧ q.size = k.toNat ∧ q.relocation = r := by
  unfold readOpen at h
  split at h
  · next hb hk hp hd hw ho =>
    rw [readFin_eq_some] at hb hp hd hw
    rw [readWindowOptions_eq, Option.ite_none_right_eq_some] at ho
    rw [readSize, Option.ite_none_right_eq_some, Option.some.injEq] at hk
    obtain ⟨size, rfl⟩ := hk
    split at h
    · next ha =>
      rw [Bool.and_eq_true] at ha
      cases h
      refine ⟨⟨by omega, size, by omega, by omega, by omega, ho.1, by simpa [alignedTo] using ha.1, fun x hx => ?_⟩,
        rfl, rfl, rfl⟩
      cases hx
      simpa [alignedTo] using ha.2
    · cases h
  · cases h

theorem readOpen_shaped {b : Byte} {base : Address} {k p d w g o : Byte} {r : Option Address} {q : OpenRequest}
    (h : readOpen b base k p d w g o r = some q) (v : Slot) : (q.fill v).Shaped := by
  obtain ⟨⟨_, ⟨h8, h20⟩, _, _, _, _, hbase, hreloc⟩, rfl, hk, rfl⟩ := readOpen_inRange h
  rw [← hk] at h8 h20 hbase hreloc
  refine ⟨h8, h20, hbase, ?_⟩
  cases hr : q.relocation with
  | none => simp [OpenRequest.fill, hr]
  | some x => simpa [OpenRequest.fill, hr] using hreloc x hr

theorem retireResult_ok {s : State} {n : SlotId} {e : Byte} (h : retireResult s n e = .ok) :
    (s.slot n).editable = true := by
  unfold retireResult at h
  by_contra hn
  rw [Bool.not_eq_true] at hn
  split at h
  · cases h
  · split at h
    · cases h
    · simp at h

/-! ## What the commands do before their replies -/

/-- What each command that places a reply can have done to the state before it. -/
structure CommandEffects (Q : State → Prop) (s : State) : Prop where
  nothing : Q s
  defined : ∀ d w l aw x, (s.device d).residency = .absent ∨ (s.device d).residency = .off →
    Q (s.setDevice d ((s.device d).define w l aw x))
  forgotten : ∀ d, (s.device d).residency = .off ∨ (s.device d).residency = .fault → (s.device d).refCount = 0 →
    Q (s.setDevice d (s.device d).forget)
  woken : ∀ d, (s.device d).residency = .off → Q (startWake d s)
  reentered : ∀ d, (s.device d).residency = .parking → Q (enterOn d s)
  parking : ∀ d, (s.device d).residency = .on → hasWork s d = true →
    Q (s.setDevice d { s.device d with residency := .parking, idleTimer := none })
  parked : ∀ d, (s.device d).residency = .on ∧ hasWork s d = false ∨
    (s.device d).residency = .waking ∧ (s.device d).heldCount = 0 → Q (powerOff d s)
  cleared : ∀ d, (s.device d).residency = .fault →
    Q (s.setDevice d { s.device d with residency := .off, faultCause := .none })
  opened : ∀ q, (∀ w, (q.fill w).Shaped) → openResult s q = .ok → Q (opened q s)
  amended : ∀ n e p wt g x, amendResult s n e p = .ok → Q (s.setSlot n ((s.slot n).amend p wt g x))
  retired : ∀ n staged, (s.slot n).editable = true → Q (retireTaken n staged s)
  untouched : ∀ n, Q (s.setSlot n { s.slot n with touched := false })
  discarded : Q (discardAll s)
  verdict : ∀ v m c x, caughtClaim s m = some c → Q (applyVerdict v m c x s)
  policy : ∀ p d w, ¬ (p = .fallback ∧ (s.device d).residency = .absent) → Q (writeMissPolicy p d w s)
  limits : ∀ h i, Q { s with holdLimit := h, interceptLimit := i }
  mask : ∀ f, Q { s with mask := f, gate := true }
  flags : ∀ f, Q { s with flags := f }

section
variable {P Q : State → Prop} {s : State} (k : CommandEffects Q s) (hr : ∀ bs t, Q t → P (reply bs t))
include k hr

theorem withDevice_of {run : Device → State → State} (h : ∀ d, P (run d s)) (b : Byte) : P (withDevice b run s) := by
  unfold withDevice; split
  · exact h _
  · exact hr _ _ k.nothing

theorem cmdDefineDevice_of (b w : Byte) (l : BitVec 16) (o : Byte) : P (cmdDefineDevice b w l o s) := by
  unfold cmdDefineDevice; split
  · split
    · next h => exact hr _ _ (k.defined _ _ _ _ _ (Or.inl h))
    · next h => exact hr _ _ (k.defined _ _ _ _ _ (Or.inr h))
    all_goals exact hr _ _ k.nothing
  · exact hr _ _ k.nothing

theorem forgetDevice_of (d : Device) : P (forgetDevice d s) := by
  unfold forgetDevice; split
  · next h =>
    split
    · next h0 => exact hr _ _ (k.forgotten d (Or.inl h) h0)
    · exact hr _ _ k.nothing
  · next h =>
    split
    · next h0 => exact hr _ _ (k.forgotten d (Or.inr h) h0)
    · exact hr _ _ k.nothing
  all_goals exact hr _ _ k.nothing

theorem wakeDevice_of (d : Device) : P (wakeDevice d s) := by
  unfold wakeDevice; split
  · next h => exact hr _ _ (k.woken d h)
  · exact hr _ _ k.nothing
  · exact hr _ _ k.nothing
  · next h => exact hr _ _ (k.reentered d h)
  all_goals exact hr _ _ k.nothing

theorem parkDevice_of (d : Device) : P (parkDevice d s) := by
  unfold parkDevice; split
  · next h =>
    split
    · next hw => exact hr _ _ (k.parking d h hw)
    · next hw => exact hr _ _ (k.parked d (Or.inl ⟨h, Bool.eq_false_of_not_eq_true hw⟩))
  · next h =>
    split
    · next h0 => exact hr _ _ (k.parked d (Or.inr ⟨h, h0⟩))
    · exact hr _ _ k.nothing
  all_goals exact hr _ _ k.nothing

theorem clearFault_of (d : Device) : P (clearFault d s) := by
  unfold clearFault; split
  · next h => exact hr _ _ (k.cleared d h)
  all_goals exact hr _ _ k.nothing

theorem cmdOpen_of (b : Byte) (base : Address) (z p d w g o : Byte) (r : Option Address) :
    P (cmdOpen b base z p d w g o r s) := by
  unfold cmdOpen; split
  · next q hq =>
    by_cases h : openResult s q = .ok
    · rw [openSlot_taken h]
      exact hr _ _ (k.opened q (readOpen_shaped hq) h)
    · rw [openSlot, if_neg h]
      exact hr _ _ k.nothing
  · exact hr _ _ k.nothing

theorem cmdAmendWindow_of (n e p w g x : Byte) : P (cmdAmendWindow n e p w g x s) := by
  unfold cmdAmendWindow; split
  · next n p _ _ _ _ _ _ =>
    by_cases h : amendResult s n e p = .ok
    · rw [amendSlot_taken _ _ _ h]
      exact hr _ _ (k.amended n e p _ _ _ h)
    · rw [amendSlot, if_neg h]
      exact hr _ _ k.nothing
  · exact hr _ _ k.nothing

theorem cmdRetireWindow_of (n e x : Byte) : P (cmdRetireWindow n e x s) := by
  unfold cmdRetireWindow; split
  · unfold retireSlot; split
    · next h => exact hr _ _ (k.retired _ _ (retireResult_ok h))
    · exact hr _ _ k.nothing
  · exact hr _ _ k.nothing

theorem cmdReadWindow_of (n c : Byte) : P (cmdReadWindow n c s) := by
  unfold cmdReadWindow readSlot; split
  · refine hr _ _ ?_
    split
    · exact k.untouched _
    · exact k.nothing
  · exact hr _ _ k.nothing

theorem cmdProbe_of (m dir w : Byte) (a : Address) : P (cmdProbe m dir w a s) := by
  unfold cmdProbe; split <;> exact hr _ _ k.nothing

theorem cmdInterceptInfo_of : P (cmdInterceptInfo s) := by
  unfold cmdInterceptInfo; split
  · exact hr _ _ k.nothing
  · split <;> exact hr _ _ k.nothing

theorem cmdVerdictByte_of (m v : Byte) (x : DataWord) : P (cmdVerdictByte m v x s) := by
  unfold cmdVerdictByte cmdVerdict takeVerdict; split
  · split
    · split
      · next h => exact hr _ _ (k.verdict _ _ _ _ h)
      · split <;> exact hr _ _ k.nothing
    · exact hr _ _ k.nothing
  · exact hr _ _ k.nothing

theorem cmdSetMissPolicy_of (p d w : Byte) : P (cmdSetMissPolicy p d w s) := by
  unfold cmdSetMissPolicy; split
  · split
    · exact hr _ _ k.nothing
    · next h => exact hr _ _ (k.policy _ _ _ h)
  · exact hr _ _ k.nothing

theorem cmdSetLimits_of (h i : Byte) : P (cmdSetLimits h i s) := by
  unfold cmdSetLimits; split
  · exact hr _ _ (k.limits _ _)
  · exact hr _ _ k.nothing

theorem cmdSetNotifyMask_of (b : Byte) : P (cmdSetNotifyMask b s) := by
  unfold cmdSetNotifyMask; split
  · exact hr _ _ (k.mask _)
  · exact hr _ _ k.nothing

theorem cmdClearNotify_of (b : Byte) : P (cmdClearNotify b s) := by
  unfold cmdClearNotify; split
  · exact hr _ _ (k.flags _)
  · exact hr _ _ k.nothing

/-- The effects of the commands that reply, with the two that make the port EXECUTING, are all that a record does. -/
theorem CommandEffects.decoder (hp : P (cmdPublish s)) (hs : P (cmdSoftReset s)) : DecoderKeeps P s where
  bad := hr _ _ k.nothing
  identify := hr _ _ k.nothing
  defineDevice := cmdDefineDevice_of k hr
  forgetDevice := withDevice_of k hr (forgetDevice_of k hr)
  wakeDevice := withDevice_of k hr (wakeDevice_of k hr)
  parkDevice := withDevice_of k hr (parkDevice_of k hr)
  clearFault := withDevice_of k hr (clearFault_of k hr)
  readDevice := withDevice_of k hr fun _ => hr _ _ k.nothing
  openWindow := cmdOpen_of k hr
  amendWindow := cmdAmendWindow_of k hr
  retireWindow := cmdRetireWindow_of k hr
  readWindow := cmdReadWindow_of k hr
  publish := hp
  discard := by rw [cmdDiscard_eq]; exact hr _ _ k.discarded
  probe := cmdProbe_of k hr
  interceptInfo := cmdInterceptInfo_of k hr
  verdict := cmdVerdictByte_of k hr
  setMissPolicy := cmdSetMissPolicy_of k hr
  setLimits := cmdSetLimits_of k hr
  setNotifyMask := cmdSetNotifyMask_of k hr
  readNotify := hr _ _ k.nothing
  clearNotify := cmdClearNotify_of k hr
  softReset := hs

end

end Sys2Proof.Machine
end

section
/-! SUPPORT. Which effects leave the window directory as it is but for ageing (touched flags, bound counts, a
DRAINING slot that becomes FREE), said once for every effect of `Keeps`; a law of the directory is then one small
lemma for each of the few effects that do more. -/

namespace Sys2Proof.Machine

/-! ## Ageing of the directory -/

/-- A slot with the same window as before, except that its touched flag and its bound count may differ and that
a DRAINING slot may have become FREE (R11 to R13). -/
def Slot.AgesTo (v w : Slot) : Prop :=
  w = { v with touched := w.touched, bound := w.bound, state := w.state } ∧
    (w.state = v.state ∨ v.state = .draining ∧ w.state = .free)

theorem Slot.AgesTo.refl (w : Slot) : w.AgesTo w := ⟨rfl, Or.inl rfl⟩

theorem Slot.AgesTo.trans {u v w : Slot} (h : u.AgesTo v) (g : v.AgesTo w) : u.AgesTo w := by
  obtain ⟨hv, hs⟩ := h
  obtain ⟨gw, gs⟩ := g
  refine ⟨by rw [gw, hv], ?_⟩
  rcases gs with gs | ⟨gs, gf⟩
  · rw [gs]; exact hs
  · rcases hs with hs | ⟨_, hf⟩
    · exact Or.inr ⟨hs ▸ gs, gf⟩
    · rw [hf] at gs; cases gs

/-- A slot that is not FREE after ageing was not FREE before. -/
theorem Slot.AgesTo.not_free {v w : Slot} (h : v.AgesTo w) (hw : w.state ≠ .free) : w.state = v.state := by
  rcases h.2 with h | h
  · exact h
  · exact absurd h.2 hw

theorem Slot.answered_ages (w : Slot) (r : Reason) : w.AgesTo (w.answered r) := by
  refine ⟨rfl, ?_⟩
  unfold Slot.answered
  by_cases h : w.state = .draining ∧ w.bound ≤ 1
  · exact Or.inr ⟨h.1, by simp [h]⟩
  · exact Or.inl (by simp [h])

/-- The directory has aged and nothing more: no window is made, rewritten or set in or out of the view, the fallback
setting stays, no device has gone ABSENT, and the reference counts follow the slots freed. -/
structure DirectoryAges (s t : State) : Prop where
  slot : ∀ n, (s.slot n).AgesTo (t.slot n)
  missPolicy : t.missPolicy = s.missPolicy
  fallbackDevice : t.fallbackDevice = s.fallbackDevice
  present : ∀ d, (t.device d).residency = .absent → (s.device d).residency = .absent
  references : ReferenceLaw s → ReferenceLaw t

theorem DirectoryAges.refl (s : State) : DirectoryAges s s :=
  ⟨fun _ => .refl _, rfl, rfl, fun _ => id, id⟩

theorem DirectoryAges.trans {s t u : State} (h : DirectoryAges s t) (g : DirectoryAges t u) : DirectoryAges s u :=
  ⟨fun n => (h.slot n).trans (g.slot n), g.missPolicy.trans h.missPolicy, g.fallbackDevice.trans h.fallbackDevice,
    fun d => h.present d ∘ g.present d, g.references ∘ h.references⟩

/-- A change that frees no slot and moves no reference count ages the directory. -/
theorem directoryAges_of {s t : State}
    (hs : ∀ n, t.slot n = { s.slot n with touched := (t.slot n).touched, bound := (t.slot n).bound })
    (hp : t.missPolicy = s.missPolicy) (hf : t.fallbackDevice = s.fallbackDevice)
    (hr : ∀ d, (t.device d).refCount = (s.device d).refCount)
    (ha : ∀ d, (t.device d).residency = .absent → (s.device d).residency = .absent) : DirectoryAges s t where
  slot n := by rw [hs n]; exact ⟨rfl, Or.inl rfl⟩
  missPolicy := hp
  fallbackDevice := hf
  present := ha
  references h d := by
    rw [hr, h d]
    exact (references_congr d (fun n => by rw [hs n]; rfl) hp hf).symm

/-- A rewrite of one device that keeps its reference count and does not make it ABSENT ages the directory. -/
theorem setDevice_ages {s : State} {d : Device} {r : DeviceRecord} (hr : r.refCount = (s.device d).refCount)
    (ha : r.residency = .absent → (s.device d).residency = .absent) : DirectoryAges s (s.setDevice d r) := by
  refine directoryAges_of (fun n => rfl) rfl rfl (fun e => ?_) fun e => ?_ <;> rw [device_setDevice] <;> split
  · next h => rw [h, hr]
  · rfl
  · next h => rw [h]; exact ha
  · exact id

/-- A change that leaves the slots, the fallback setting and the devices alone. -/
theorem directoryAges_of_eq {s t : State} (hs : t.slots = s.slots) (hp : t.missPolicy = s.missPolicy)
    (hf : t.fallbackDevice = s.fallbackDevice) (hd : t.devices = s.devices) : DirectoryAges s t := by
  have hslot : ∀ n, t.slot n = s.slot n := fun n => by rw [slot_def, slot_def, hs]
  have hdev : ∀ d, t.device d = s.device d := fun d => by rw [device_def, device_def, hd]
  exact directoryAges_of (fun n => by rw [hslot]) hp hf (fun d => by rw [hdev]) fun d => by rw [hdev]; exact id

theorem SameRecords.ages {s t : State} (h : SameRecords s t) : DirectoryAges s t := by
  apply directoryAges_of_eq <;> rw [h.2]

/-! ## Claims -/

theorem raiseBound_ages (n : SlotId) (s : State) : DirectoryAges s (raiseBound n s) := by
  refine directoryAges_of (fun m => ?_) rfl rfl (fun _ => rfl) fun _ => id
  rw [raiseBound_slot]; split
  · next h => rw [h]
  · rfl

theorem answerClaim_ages (m : Master) (a : Access) (r : Reason) (x : DataWord) (s : State) :
    DirectoryAges s (answerClaim m a r x s) where
  slot n := by
    rw [answerClaim_slot, slotAfterAnswer]; split
    · exact Slot.answered_ages _ r
    · exact .refl _
  missPolicy := by rw [answerClaim_frame]
  fallbackDevice := by rw [answerClaim_frame]
  present d := by rw [answerClaim_device]; exact id
  references := answerClaim_referenceLaw m a r x

theorem answerAll_ages (ms : List Master) (r : Reason) (s : State) : DirectoryAges s (answerAll ms r s) := by
  induction ms generalizing s with
  | nil => exact .refl s
  | cons m ms ih =>
    rw [answerAll_cons]
    refine .trans ?_ (ih _)
    unfold answerMaster; split
    · exact answerClaim_ages ..
    · exact .refl s

theorem enterHold_ages (m : Master) (a : Access) (s : State) : DirectoryAges s (enterHold m a s) :=
  directoryAges_of (fun _ => rfl) rfl rfl (fun d => by rw [enterHold_device]) fun d => by
    rw [enterHold_device]; exact id

theorem startWake_ages (d : Device) (s : State) : DirectoryAges s (startWake d s) :=
  setDevice_ages rfl fun h => by cases h

theorem powerOff_ages (d : Device) (s : State) : DirectoryAges s (powerOff d s) :=
  setDevice_ages rfl fun h => by cases h

theorem residencyStep_ages (m : Master) (a : Access) (s : State) : DirectoryAges s (residencyStep m a s) := by
  rcases residencyStep_cases m a s with ⟨_, h⟩ | ⟨_, h⟩ | ⟨_, h⟩ | ⟨_, r, _, h⟩ <;> rw [h]
  · exact directoryAges_of_eq rfl rfl rfl rfl
  · exact enterHold_ages ..
  · exact (startWake_ages ..).trans (enterHold_ages ..)
  · exact answerClaim_ages ..

theorem decideClaim_ages (m : Master) (a : Address) (dir : Direction) (w : Width) (x : DataWord) (s : State) :
    DirectoryAges s (decideClaim m a dir w x s) := by
  unfold decideClaim; split
  · exact directoryAges_of_eq rfl rfl rfl rfl
  · exact directoryAges_of_eq rfl rfl rfl rfl
  · exact residencyStep_ages ..
  · next n _ =>
    refine (raiseBound_ages n s).trans ?_
    simp only
    split
    · exact answerClaim_ages ..
    · split
      · exact directoryAges_of_eq rfl rfl rfl rfl
      · exact residencyStep_ages ..

theorem takeClaim_ages (m : Master) (a : Address) (dir : Direction) (w : Width) (x : DataWord) (s : State) :
    DirectoryAges s (takeClaim m a dir w x s) := by
  have hm : DirectoryAges s (s.setMarker m false) := directoryAges_of_eq rfl rfl rfl rfl
  refine hm.trans ?_
  unfold takeClaim; simp only; split
  · exact directoryAges_of_eq rfl rfl rfl rfl
  · exact decideClaim_ages ..

theorem endPark_ages (d : Device) (s : State) : DirectoryAges s (endPark d s) := by
  unfold endPark; split
  · split
    · exact powerOff_ages d s
    · refine ((powerOff_ages d s).trans ?_).trans (startWake_ages ..)
      exact directoryAges_of_eq rfl rfl rfl rfl
  · exact .refl s

theorem reloadIdle_ages (d : Device) (s : State) : DirectoryAges s (reloadIdle d s) := by
  unfold reloadIdle; split
  · exact setDevice_ages rfl id
  all_goals exact .refl s

theorem complete_ages (m : Master) (a : Access) (dd : DataWord) (s : State) : DirectoryAges s (complete m a dd s) :=
  ((answerClaim_ages ..).trans (reloadIdle_ages ..)).trans (endPark_ages ..)

/-! ## Timers, power good and resets -/

/-- Every device rewritten, each keeping its reference count and none going ABSENT. -/
theorem mapDevices_ages {s t : State} {f : DeviceRecord → DeviceRecord}
    (ht : DirectoryAges s { t with devices := s.devices })
    (hd : t.devices = mapTable (fun _ r => f r) s.devices) (hr : ∀ r, (f r).refCount = r.refCount)
    (ha : ∀ r, (f r).residency = .absent → r.residency = .absent) : DirectoryAges s t := by
  have hdev : ∀ d, t.device d = f (s.device d) := fun d => by rw [device_def, hd, mapTable_getElem]; rfl
  refine ht.trans (directoryAges_of (fun _ => rfl) rfl rfl (fun d => ?_) fun d => ?_) <;> rw [hdev]
  · exact hr _
  · exact ha _

theorem tickAll_ages (s : State) : DirectoryAges s (tickAll s) :=
  mapDevices_ages (directoryAges_of_eq rfl rfl rfl rfl) rfl (fun _ => rfl) fun _ => id

theorem endParkEmpty_refCount (r : DeviceRecord) : r.endParkEmpty.refCount = r.refCount := by
  unfold DeviceRecord.endParkEmpty; split <;> rfl

theorem endParkEmpty_present (r : DeviceRecord) (h : r.endParkEmpty.residency = .absent) : r.residency = .absent := by
  unfold DeviceRecord.endParkEmpty at h; split at h
  · cases h
  · exact h

theorem enterOn_ages (d : Device) (s : State) : DirectoryAges s (enterOn d s) := by
  refine directoryAges_of (fun n => by rw [enterOn_slot]) (by rw [enterOn_eq]) (by rw [enterOn_eq])
    (fun e => ?_) fun e => ?_ <;> rw [enterOn_device] <;> split
  · next h => rw [h]
  · rfl
  · intro h; cases h
  · exact id

theorem enterFault_ages (d : Device) (cause : FaultCause) (ms : List Master) (s : State) :
    DirectoryAges s (enterFault d cause ms s) := by
  refine ((answerAll_ages ms .deviceFault s).trans ?_).trans (sameRecords_raise _ .fault).ages
  exact setDevice_ages rfl (by simp)

theorem endWake_ages (d : Device) (level : Bool) (s : State) : DirectoryAges s (endWake d level s) := by
  have hp : DirectoryAges s (samplePgd d level s) := directoryAges_of_eq rfl rfl rfl rfl
  refine hp.trans ?_
  unfold endWake; simp only; split
  · exact enterOn_ages ..
  · exact enterFault_ages ..

theorem endIdle_ages (d : Device) (s : State) : DirectoryAges s (endIdle d s) := by
  unfold endIdle; split
  · exact setDevice_ages rfl id
  · exact powerOff_ages ..

theorem losePower_ages (d : Device) (level : Bool) (s : State) :
    DirectoryAges s (losePower d (samplePgd d level s)) :=
  (directoryAges_of_eq (s := s) (t := samplePgd d level s) rfl rfl rfl rfl).trans (enterFault_ages ..)

theorem Slot.busReset_ages (w : Slot) : w.AgesTo w.busReset := by
  refine ⟨rfl, ?_⟩
  unfold Slot.busReset
  by_cases h : w.state = .draining
  · exact Or.inr ⟨h, by simp [h]⟩
  · exact Or.inl (by simp [h])

theorem busReset_ages (s : State) : DirectoryAges s (busReset s) where
  slot n := by rw [busReset_slot]; exact Slot.busReset_ages _
  missPolicy := busReset_missPolicy s
  fallbackDevice := busReset_fallbackDevice s
  present d := by rw [busReset_device]; exact endParkEmpty_present _
  references := busReset_referenceLaw

theorem cmdSoftReset_ages (s : State) : DirectoryAges s (cmdSoftReset s) := by
  refine (answerAll_ages (inFlight s) .reset s).trans ?_
  unfold cmdSoftReset answerAllReset inFlight
  generalize answerAll _ .reset s = t
  exact mapDevices_ages (directoryAges_of_eq rfl rfl rfl rfl) rfl endParkEmpty_refCount endParkEmpty_present

/-! ## Commands -/

theorem reply_ages (bs : List Byte) (s : State) : DirectoryAges s (reply bs s) := directoryAges_of_eq rfl rfl rfl rfl

theorem untouched_ages (n : SlotId) (s : State) :
    DirectoryAges s (s.setSlot n { s.slot n with touched := false }) := by
  refine directoryAges_of (fun k => ?_) rfl rfl (fun _ => rfl) fun _ => id
  rw [slot_setSlot]; split
  · next h => rw [h]
  · rfl

theorem applyVerdict_ages (v : Verdict) (m : Master) (c : Claim) (x : DataWord) (s : State) :
    DirectoryAges s (applyVerdict v m c x s) := by
  cases v with
  | pass =>
    have left : DirectoryAges s { s with interceptList := s.interceptList.filter fun x => decide (x ≠ m) } :=
      directoryAges_of_eq rfl rfl rfl rfl
    exact left.trans (residencyStep_ages ..)
  | refuse => exact answerClaim_ages ..
  | supply =>
    have kept : DirectoryAges s (s.setClaim m (some { c with verdictData := some x })) :=
      directoryAges_of_eq rfl rfl rfl rfl
    exact kept.trans (answerClaim_ages ..)

end Sys2Proof.Machine
end

section
/-! SUPPORT. A law of the directory, packaged: kept by ageing and by each effect that does more, it is kept by every
step. -/

namespace Sys2Proof.Machine

/-- A law that ageing of the directory keeps, and each effect that makes, rewrites, frees or switches windows or moves
the fallback or makes a device ABSENT. -/
structure DirectoryLaw (P : State → Prop) : Prop where
  ages : ∀ s t, P s → DirectoryAges s t → P t
  low : ∀ s, P s → P (heldInReset s)
  high : ∀ x s, P s → P (powerOnState x s)
  opened : ∀ q s, P s → (∀ w, (q.fill w).Shaped) → openResult s q = .ok → P (opened q s)
  amended : ∀ n e p wt g x s, P s → amendResult s n e p = .ok → P (s.setSlot n ((s.slot n).amend p wt g x))
  retired : ∀ n staged s, P s → (s.slot n).editable = true → P (retireTaken n staged s)
  discarded : ∀ s, P s → P (discardAll s)
  published : ∀ s, P s → firstConflict s = none → P (applyPublish s)
  forgotten : ∀ d s, P s → (s.device d).refCount = 0 → P (s.setDevice d (s.device d).forget)
  policy : ∀ p d w s, P s → ¬ (p = .fallback ∧ (s.device d).residency = .absent) → P (writeMissPolicy p d w s)
  rebuilt : ∀ s, P s → P (completeSoftReset s)

section
variable {P : State → Prop} (k : DirectoryLaw P)
include k

theorem DirectoryLaw.replied {s : State} (hs : P s) (bs : List Byte) : P (reply bs s) :=
  k.ages _ _ hs (reply_ages bs s)

theorem DirectoryLaw.effects {s : State} (hs : P s) : CommandEffects P s where
  nothing := hs
  defined _ _ _ _ _ _ := k.ages _ _ hs (setDevice_ages rfl (by simp [DeviceRecord.define]))
  forgotten d _ h := k.forgotten d s hs h
  woken d _ := k.ages _ _ hs (startWake_ages d s)
  reentered d _ := k.ages _ _ hs (enterOn_ages d s)
  parking _ _ _ := k.ages _ _ hs (setDevice_ages rfl (by simp))
  parked d _ := k.ages _ _ hs (powerOff_ages d s)
  cleared _ _ := k.ages _ _ hs (setDevice_ages rfl (by simp))
  opened q hq h := k.opened q s hs hq h
  amended n e p wt g x h := k.amended n e p wt g x s hs h
  retired n staged h := k.retired n staged s hs h
  untouched n := k.ages _ _ hs (untouched_ages n s)
  discarded := k.discarded s hs
  verdict v m c x _ := k.ages _ _ hs (applyVerdict_ages v m c x s)
  policy p d w h := k.policy p d w s hs h
  limits _ _ := k.ages _ _ hs (directoryAges_of_eq rfl rfl rfl rfl)
  mask _ := k.ages _ _ hs (directoryAges_of_eq rfl rfl rfl rfl)
  flags _ := k.ages _ _ hs (directoryAges_of_eq rfl rfl rfl rfl)

theorem DirectoryLaw.decoder {s : State} (hs : P s) : DecoderKeeps P s :=
  (k.effects hs).decoder (fun bs _ ht => k.replied ht bs) (k.ages _ _ hs (directoryAges_of_eq rfl rfl rfl rfl))
    (k.ages _ _ hs (cmdSoftReset_ages s))

theorem completePublish_keeps {s : State} (hs : P s) : P (completePublish s) := by
  have done : ∀ {t}, P t → P (raise .done t) := fun ht => k.ages _ _ ht (sameRecords_raise _ _).ages
  unfold completePublish; split
  · exact done (k.replied hs _)
  · next h => exact done (k.replied (k.published s hs h) _)

/-- A law of the directory is kept by every step. -/
theorem DirectoryLaw.keeps : Keeps P where
  same s t hs h := k.ages s t hs h.ages
  arrival _ _ _ _ _ s hs _ := k.ages s _ hs (takeClaim_ages ..)
  grant _ _ _ s hs _ _ _ := k.ages s _ hs (directoryAges_of_eq rfl rfl rfl rfl)
  completion _ _ _ s hs _ _ := k.ages s _ hs (complete_ages ..)
  tick s hs := k.ages s _ hs (tickAll_ages s)
  wake _ _ s hs _ := k.ages s _ hs (endWake_ages ..)
  idle _ s hs _ _ := k.ages s _ hs (endIdle_ages ..)
  hold _ _ s hs _ _ := k.ages s _ hs (answerClaim_ages ..)
  intercept _ _ s hs _ _ :=
    k.ages s _ hs ((answerClaim_ages ..).trans (directoryAges_of_eq rfl rfl rfl rfl))
  departure _ _ s hs _ _ := k.ages s _ hs (losePower_ages ..)
  low := k.low
  high := k.high
  bus s hs := k.ages s _ hs (busReset_ages s)
  record code params _ hs _ := runRecord_of (k.decoder hs) code params
  unknown _ hs _ := k.replied hs _
  published _ _ hs _ := completePublish_keeps k hs
  rebuilt s _ hs _ := k.rebuilt s hs

end

end Sys2Proof.Machine
end

section
/-! PROOF. The shape of the windows (O52) and the law of equal precedence (O53). -/

namespace Sys2Proof.Machine

/-! ## Slots after the effects of `DirectoryLaw` -/

theorem heldInReset_slot (s : State) (n : SlotId) : (heldInReset s).slot n = Slot.blank := by
  simp [slot_def, heldInReset]

theorem powerOnState_slot (x : Straps) (s : State) (n : SlotId) :
    (powerOnState x s).slot n = if n = 0 then bootSlot x 0 else Slot.blank := by
  have h := vector_set_getElem (Vector.replicate 64 Slot.blank) 0 n (bootSlot x 0)
  rw [Fin.getElem_fin (Vector.replicate 64 Slot.blank), Vector.getElem_replicate] at h
  exact h

theorem opened_slot (q : OpenRequest) (s : State) (n : SlotId) :
    (opened q s).slot n = if n = q.slot then q.fill (s.slot q.slot) else s.slot n := by
  rw [opened, addReference_slot, slot_setSlot]

theorem discardAll_slot (s : State) (n : SlotId) : (discardAll s).slot n = (s.slot n).discard := by
  rw [slot_def, discardAll, mapTable_getElem]; rfl

theorem writeMissPolicy_slot (p : MissPolicy) (d : Device) (w : Fin 16) (s : State) (n : SlotId) :
    (writeMissPolicy p d w s).slot n = s.slot n := by
  unfold writeMissPolicy takeFallback dropFallback
  cases p <;> cases s.missPolicy <;> rfl

/-- A retirement rewrites the state of its slot alone: FREE for a STAGED slot or without claims bound, otherwise
MARKED, or DRAINING with claims bound (R118, R119). -/
theorem retireTaken_slot (n : SlotId) (staged : Bool) (s : State) (k : SlotId) :
    ∃ x, (retireTaken n staged s).slot k = { s.slot k with state := x } ∧
      (x = (s.slot k).state ∨ k = n ∧ (x = .free ∧ ((s.slot n).state = .staged ∨ (s.slot n).bound = 0) ∨
        (s.slot n).state ≠ .staged ∧ (x = .marked ∨ x = .draining ∧ (s.slot n).bound ≠ 0))) := by
  have freed : (freeSlot n s).slot k = { s.slot k with state := if k = n then .free else (s.slot k).state } := by
    rw [freeSlot_slot]; split
    · next h => rw [h]
    · rfl
  have moved : ∀ x, (s.setSlot n { s.slot n with state := x }).slot k =
      { s.slot k with state := if k = n then x else (s.slot k).state } := fun x => by
    rw [slot_setSlot]; split
    · next h => rw [h]
    · rfl
  by_cases hk : k = n
  · unfold retireTaken; split
    · next hs => exact ⟨_, freed, Or.inr ⟨hk, Or.inl ⟨if_pos hk, Or.inl hs⟩⟩⟩
    · next hs =>
      split
      · exact ⟨_, moved _, Or.inr ⟨hk, Or.inr ⟨hs, Or.inl (if_pos hk)⟩⟩⟩
      · split
        · next hb => exact ⟨_, freed, Or.inr ⟨hk, Or.inl ⟨if_pos hk, Or.inr hb⟩⟩⟩
        · next hb => exact ⟨_, moved _, Or.inr ⟨hk, Or.inr ⟨hs, Or.inr ⟨if_pos hk, hb⟩⟩⟩⟩
  · refine ⟨(s.slot k).state, ?_, Or.inl rfl⟩
    rw [if_neg hk] at freed
    simp only [if_neg hk] at moved
    unfold retireTaken; split
    · exact freed
    · split
      · exact moved _
      · split
        · exact freed
        · exact moved _

/-! ## The shape of the windows (R2, R3) -/

theorem blank_shaped : Slot.blank.Shaped := by unfold Slot.Shaped; decide

theorem bootSlot_shaped (x : Straps) (g : Generation) : (bootSlot x g).Shaped := by
  have h : ∀ b : BitVec 2, (16 + b.toNat) ≤ 20 ∧
      (BitVec.ofNat 24 (0x1000000 - 2 ^ (16 + b.toNat))).toNat % 2 ^ (16 + b.toNat) = 0 := by decide
  obtain ⟨h20, hb⟩ := h x.bsz
  exact ⟨Nat.le_add_right_of_le (by omega), h20, hb, rfl⟩

/-- The shape of a window is its size, its base and its relocation. -/
theorem Slot.Shaped.congr {v w : Slot} (h : v.Shaped) (hk : w.size = v.size) (hb : w.base = v.base)
    (hr : w.relocation = v.relocation) : w.Shaped := by
  unfold Slot.Shaped
  rw [hk, hb, hr]
  exact h

theorem publish_window (w : Slot) : w.publish = { w with state := w.publish.state } := by
  unfold Slot.publish; split <;> rfl

theorem discard_window (w : Slot) : w.discard = { w with state := w.discard.state } := by
  unfold Slot.discard; split <;> rfl

theorem powerOnState_slotsShaped (x : Straps) (s : State) : SlotsShaped (powerOnState x s) := fun n => by
  rw [powerOnState_slot]; split
  · exact bootSlot_shaped x 0
  · exact blank_shaped

theorem slotsShaped_law : DirectoryLaw SlotsShaped where
  ages s t hs h n := by
    rw [(h.slot n).1]
    exact (hs n).congr rfl rfl rfl
  low s _ n := by rw [heldInReset_slot]; exact blank_shaped
  high x s _ := powerOnState_slotsShaped x s
  opened q s hs hq _ n := by
    rw [opened_slot]; split
    · exact hq _
    · exact hs n
  amended n e p wt g x s hs _ k := by
    rw [slot_setSlot]; split
    · exact (hs n).congr rfl rfl rfl
    · exact hs k
  retired n staged s hs _ k := by
    obtain ⟨x, hx, _⟩ := retireTaken_slot n staged s k
    rw [hx]
    exact (hs k).congr rfl rfl rfl
  discarded s hs n := by
    rw [discardAll_slot, discard_window]
    exact (hs n).congr rfl rfl rfl
  published s hs _ n := by
    rw [applyPublish_slot, publish_window]
    exact (hs n).congr rfl rfl rfl
  forgotten _ _ hs _ n := hs n
  policy p d w s hs _ n := by rw [writeMissPolicy_slot]; exact hs n
  rebuilt s hs n := by
    rw [completeSoftReset_slot]; split
    · exact bootSlot_shaped _ _
    · exact (hs n).congr rfl rfl rfl

/-- Settles O52: the shape of the windows is a law of the directory. -/
theorem stepKeepsSlotsShaped : Obligations.StepKeepsSlotsShaped :=
  fun _ _ hs h => step_keeps slotsShaped_law.keeps h hs

/-! ## Equal precedence (R21, R22) -/

theorem conflicts_congr {v v' w w' : Slot} (hv : v'.precedence = v.precedence ∧ v'.base = v.base ∧ v'.size = v.size)
    (hw : w'.precedence = w.precedence ∧ w'.base = w.base ∧ w'.size = w.size) : v'.conflicts w' = v.conflicts w := by
  unfold Slot.conflicts Slot.shares
  rw [hv.1, hv.2.1, hv.2.2, hw.1, hw.2.1, hw.2.2]

/-- A view that no window enters, with the windows in it as they were, stays lawful. -/
theorem EqualPrecedenceLaw.of_view {s t : State} (hs : EqualPrecedenceLaw s)
    (h : ∀ n, (t.slot n).inView = true → (s.slot n).inView = true ∧ (t.slot n).precedence = (s.slot n).precedence ∧
      (t.slot n).base = (s.slot n).base ∧ (t.slot n).size = (s.slot n).size) : EqualPrecedenceLaw t := by
  intro n m hne hn hm
  obtain ⟨vn, hn⟩ := h n hn
  obtain ⟨vm, hm⟩ := h m hm
  rw [conflicts_congr hn hm]
  exact hs n m hne vn vm

/-- One slot rewritten: the law asks only that the new window, if it is in the view, conflicts with no other. -/
theorem EqualPrecedenceLaw.of_slot {s t : State} (hs : EqualPrecedenceLaw s) (n : SlotId)
    (ht : ∀ k, k ≠ n → t.slot k = s.slot k)
    (h : (t.slot n).inView = true → ∀ m, m ≠ n → (s.slot m).inView = true →
      (t.slot n).conflicts (s.slot m) = false) : EqualPrecedenceLaw t := by
  intro i j hne hi hj
  by_cases hin : i = n
  · have hjn : j ≠ n := fun e => hne (hin.trans e.symm)
    rw [hin] at hi ⊢
    rw [ht j hjn] at hj ⊢
    exact h hi j hjn hj
  · rw [ht i hin] at hi ⊢
    by_cases hjn : j = n
    · rw [hjn] at hj ⊢
      rw [conflicts_comm]
      exact h hj i hin hi
    · rw [ht j hjn] at hj ⊢
      exact hs i j hne hi hj

/-- A view of at most slot 0 is lawful. -/
theorem equalPrecedence_of_boot {t : State} (h : ∀ n, n ≠ 0 → (t.slot n).inView = false) : EqualPrecedenceLaw t := by
  intro n m hne hn hm
  have : n = 0 := by by_contra e; rw [h n e] at hn; cases hn
  have : m = 0 := by by_contra e; rw [h m e] at hm; cases hm
  exact absurd (by simp [*]) hne

theorem conflictsWithView_false {s : State} {x : Option SlotId} {w : Slot} (h : conflictsWithView s x w = false)
    {m : SlotId} (hx : x ≠ some m) (hm : (s.slot m).inView = true) : w.conflicts (s.slot m) = false := by
  have := List.any_eq_false.mp h m (List.mem_finRange m)
  simpa [hx, hm] using this

/-- A publish without a conflict joins STAGED windows that conflict with no window of the new view (R122). -/
theorem no_conflict_of_firstConflict {s : State} (h : firstConflict s = none) {n m : SlotId} (hne : n ≠ m)
    (hn : (s.slot n).state = .staged) (hm : (s.slot m).state = .live ∨ (s.slot m).state = .staged) :
    (s.slot n).conflicts (s.slot m) = false := by
  have hn' := List.findSome?_eq_none_iff.mp h n (List.mem_finRange n)
  rw [if_pos hn, Option.map_eq_none_iff, List.find?_eq_none] at hn'
  have := hn' m (List.mem_finRange m)
  simpa [Ne.symm hne, hm] using this

theorem opened_equalPrecedence {s : State} {q : OpenRequest} (hs : EqualPrecedenceLaw s)
    (h : openResult s q = .ok) : EqualPrecedenceLaw (opened q s) := by
  refine hs.of_slot q.slot (fun k hk => by rw [opened_slot, if_neg hk]) fun hv m _ hm => ?_
  rw [opened_slot, if_pos rfl] at hv ⊢
  have hst : q.staged = false := by
    cases hq : q.staged with
    | false => rfl
    | true => rw [inView_iff] at hv; simp [OpenRequest.fill, hq] at hv
  have hc : conflictsWithView s none (q.fill (s.slot q.slot)) = false := by
    unfold openResult at h
    rw [hst] at h
    by_contra hn
    rw [Bool.not_eq_false] at hn
    simp only [hn, and_self, if_true] at h
    split at h
    · cases h
    · split at h <;> cases h
  exact conflictsWithView_false hc (by simp) hm

theorem amended_equalPrecedence {s : State} {n : SlotId} {e : Byte} {p : Fin 8} (wt : Fin 16) (g : Byte) (x : Watch)
    (hs : EqualPrecedenceLaw s) (h : amendResult s n e p = .ok) :
    EqualPrecedenceLaw (s.setSlot n ((s.slot n).amend p wt g x)) := by
  refine hs.of_slot n (fun k hk => by rw [slot_setSlot, if_neg hk]) fun hv m hmn hm => ?_
  rw [slot_setSlot, if_pos rfl] at hv ⊢
  have hvn : (s.slot n).inView = true := hv
  have hcong : ((s.slot n).amend p wt g x).conflicts (s.slot m) =
      { s.slot n with precedence := p }.conflicts (s.slot m) := conflicts_congr ⟨rfl, rfl, rfl⟩ ⟨rfl, rfl, rfl⟩
  rw [hcong]
  by_cases hp : p = (s.slot n).precedence
  · have : { s.slot n with precedence := p } = s.slot n := by rw [hp]
    rw [this]
    exact hs n m (Ne.symm hmn) hvn hm
  · unfold amendResult at h
    split at h
    · cases h
    · split at h
      · cases h
      · split at h
        · cases h
        · next hed =>
          have hlive : (s.slot n).state = .live := by
            rw [inView_iff] at hvn
            rcases hvn with hl | hl
            · exact hl
            · simp [Slot.editable, hl] at hed
          refine conflictsWithView_false (x := some n) ?_ (by simpa using Ne.symm hmn) hm
          by_contra hn
          rw [Bool.not_eq_false] at hn
          rw [if_pos ⟨hlive, hp, hn⟩] at h
          cases h

theorem published_equalPrecedence {s : State} (hs : EqualPrecedenceLaw s) (h : firstConflict s = none) :
    EqualPrecedenceLaw (applyPublish s) := by
  have view : ∀ w : Slot, w.publish.inView = true → w.state = .live ∨ w.state = .staged := by
    intro w hw
    rw [inView_iff] at hw
    unfold Slot.publish at hw
    cases hst : w.state <;> simp [hst] at hw ⊢
    split at hw <;> simp at hw
  intro n m hne hn hm
  have place : ∀ w : Slot, w.publish.precedence = w.precedence ∧ w.publish.base = w.base ∧ w.publish.size = w.size :=
    fun w => by rw [publish_window]; exact ⟨rfl, rfl, rfl⟩
  rw [applyPublish_slot] at hn hm
  rw [applyPublish_slot, applyPublish_slot, conflicts_congr (place (s.slot n)) (place (s.slot m))]
  rcases view _ hn with ln | sn
  · rcases view _ hm with lm | sm
    · exact hs n m hne (by simp [Slot.inView, ln]) (by simp [Slot.inView, lm])
    · rw [conflicts_comm]
      exact no_conflict_of_firstConflict h (Ne.symm hne) sm (Or.inl ln)
  · exact no_conflict_of_firstConflict h hne sn (view _ hm)

theorem powerOnState_equalPrecedence (x : Straps) (s : State) : EqualPrecedenceLaw (powerOnState x s) :=
  equalPrecedence_of_boot fun n hn => by rw [powerOnState_slot, if_neg hn]; rfl

theorem equalPrecedence_law : DirectoryLaw EqualPrecedenceLaw where
  ages s t hs h := by
    refine hs.of_view fun n hv => ?_
    have hst : (t.slot n).state = (s.slot n).state := by
      apply (h.slot n).not_free
      rw [inView_iff] at hv
      rintro e
      simp [e] at hv
    rw [inView_iff, hst] at hv
    refine ⟨(inView_iff _).mpr hv, ?_⟩
    rw [(h.slot n).1]
    exact ⟨rfl, rfl, rfl⟩
  low s _ := equalPrecedence_of_boot fun n _ => by rw [heldInReset_slot]; rfl
  high x s _ := powerOnState_equalPrecedence x s
  opened _ _ hs _ h := opened_equalPrecedence hs h
  amended _ _ _ _ _ _ _ hs h := amended_equalPrecedence _ _ _ hs h
  retired n staged s hs he := by
    refine hs.of_view fun k hv => ?_
    obtain ⟨x, hx, hc⟩ := retireTaken_slot n staged s k
    rw [hx, inView_iff] at hv
    rw [hx]
    refine ⟨?_, rfl, rfl, rfl⟩
    rw [inView_iff]
    rcases hc with rfl | ⟨rfl, ⟨rfl, _⟩ | ⟨hst, _⟩⟩
    · exact hv
    · simp at hv
    · left; simpa [Slot.editable, hst] using he
  discarded s hs := by
    refine hs.of_view fun n hv => ?_
    rw [discardAll_slot, discard_window] at hv ⊢
    refine ⟨?_, rfl, rfl, rfl⟩
    rw [inView_iff] at hv ⊢
    unfold Slot.discard at hv
    cases hst : (s.slot n).state <;> simp [hst] at hv ⊢
  published _ hs h := published_equalPrecedence hs h
  forgotten _ _ hs _ := hs
  policy p d w s hs _ := hs.of_view fun n hv => by
    rw [writeMissPolicy_slot] at hv ⊢
    exact ⟨hv, rfl, rfl, rfl⟩
  rebuilt s _ := equalPrecedence_of_boot fun n hn => by rw [completeSoftReset_slot, if_neg hn]; rfl

/-- Settles O53: equal precedence is a law of the directory. -/
theorem stepKeepsEqualPrecedence : Obligations.StepKeepsEqualPrecedence :=
  fun _ _ hs h => step_keeps equalPrecedence_law.keeps h hs

end Sys2Proof.Machine
end

section
/-! PROOF. The references to devices (O54), and the commands that move the fallback's (O48). -/

namespace Sys2Proof.Machine

/-! ## Counting references -/

/-- Without windows and without a fallback there is no reference. -/
theorem references_none {s : State} (h : ∀ n, (s.slot n).state = .free) (hp : s.missPolicy = .abort) (d : Device) :
    references s d = 0 := by
  have hc : countSlots (refersTo d) s.slots = 0 := by
    rw [countSlots_eq, List.countP_eq_zero]
    intro n _
    rw [← slot_def, refersTo, h n]
    simp
  rw [references_eq, hc, fallbackRefers, hp]
  simp

/-- With the boot window alone there is the one reference of D0. -/
theorem references_boot {s : State} (h : ∀ n, n ≠ 0 → (s.slot n).state = .free) (h0 : (s.slot 0).state ≠ .free)
    (hd : (s.slot 0).device = 0) (hp : s.missPolicy = .abort) (d : Device) :
    references s d = if d = 0 then 1 else 0 := by
  have none : references (s.setSlot 0 Slot.blank) d = 0 := by
    refine references_none (s := s.setSlot 0 Slot.blank) (fun n => ?_) hp d
    rw [slot_setSlot]; split
    · rfl
    · next hn => exact h n hn
  have hset := references_setSlot_add s 0 Slot.blank d
  rw [none] at hset
  simp only [refersTo, Slot.blank, hd, h0, ne_eq, not_true_eq_false, not_false_eq_true, true_and, false_and,
    decide_false, Bool.false_eq_true, if_false, decide_eq_true_eq, eq_comm (a := (0 : Device))] at hset
  omega

/-- A device without a reference is named by no slot that is not FREE, nor by the fallback (R61). -/
theorem unnamed_of_references_zero {s : State} {d : Device} (h : references s d = 0) :
    (∀ n, (s.slot n).state ≠ .free → (s.slot n).device ≠ d) ∧ (s.missPolicy = .fallback → s.fallbackDevice ≠ d) := by
  rw [references_eq, Nat.add_eq_zero_iff, countSlots_eq, List.countP_eq_zero, fallbackRefers] at h
  obtain ⟨hs, hf⟩ := h
  refine ⟨fun n hn hd => hs n (List.mem_finRange n) (decide_eq_true ⟨hn, hd⟩), fun hp hd => ?_⟩
  simp [hp, hd] at hf

/-! ## The law of references under the effects of `DirectoryLaw` (R55) -/

theorem heldInReset_device (s : State) (d : Device) : (heldInReset s).device d = DeviceRecord.blank := by
  simp [device_def, heldInReset]

theorem powerOnState_device (x : Straps) (s : State) (d : Device) :
    (powerOnState x s).device d = if d = 0 then bootDevice x else DeviceRecord.blank := by
  have h := vector_set_getElem (Vector.replicate 16 DeviceRecord.blank) 0 d (bootDevice x)
  rw [Fin.getElem_fin (Vector.replicate 16 DeviceRecord.blank), Vector.getElem_replicate] at h
  exact h

theorem heldInReset_referenceLaw (s : State) : ReferenceLaw (heldInReset s) := fun d => by
  rw [heldInReset_device, references_none (fun n => by rw [heldInReset_slot]; rfl) rfl]; rfl

theorem powerOnState_referenceLaw (x : Straps) (s : State) : ReferenceLaw (powerOnState x s) := fun d => by
  rw [powerOnState_device, references_boot (fun n hn => by rw [powerOnState_slot, if_neg hn]; rfl)
    (by rw [powerOnState_slot, if_pos rfl]; simp [bootSlot]) (by rw [powerOnState_slot, if_pos rfl]; rfl) rfl]
  split <;> rfl

theorem softResetZero_refCount (r : DeviceRecord) (x : Straps) : (r.softResetZero x).refCount = 1 := by
  unfold DeviceRecord.softResetZero; split <;> rfl

theorem completeSoftReset_referenceLaw (s : State) : ReferenceLaw (completeSoftReset s) := fun d => by
  rw [completeSoftReset_device, references_boot (fun n hn => by rw [completeSoftReset_slot, if_neg hn]; rfl)
    (by rw [completeSoftReset_slot, if_pos rfl]; simp [bootSlot])
    (by rw [completeSoftReset_slot, if_pos rfl]; rfl) rfl]
  split
  · exact softResetZero_refCount _ _
  · rfl

theorem openResult_ok {s : State} {q : OpenRequest} (h : openResult s q = .ok) :
    (s.slot q.slot).state = .free ∧ (s.device q.device).residency ≠ .absent := by
  unfold openResult at h
  by_cases hf : (s.slot q.slot).state = .free
  · by_cases ha : (s.device q.device).residency = .absent
    · simp [hf, ha] at h
    · exact ⟨hf, ha⟩
  · simp [hf] at h

theorem fill_not_free (q : OpenRequest) (w : Slot) : (q.fill w).state ≠ .free := by
  unfold OpenRequest.fill
  cases q.staged <;> simp

theorem opened_device (q : OpenRequest) (s : State) (d : Device) : (opened q s).device d =
    { s.device d with refCount := (s.device d).refCount + if d = q.device then 1 else 0 } := by
  rw [opened, addReference_device]; rfl

theorem opened_referenceLaw {q : OpenRequest} {s : State} (hs : ReferenceLaw s)
    (hf : (s.slot q.slot).state = .free) : ReferenceLaw (opened q s) := fun d => by
  have h : references (opened q s) d = _ := references_fill hf (fill_not_free q _) d
  rw [opened_device, h, hs d]
  rfl

theorem freeSlot_referenceLaw {s : State} {n : SlotId} (hs : ReferenceLaw s) (hn : (s.slot n).state ≠ .free) :
    ReferenceLaw (freeSlot n s) := fun d => by
  have h : references (freeSlot n s) d = _ := references_free (w := { s.slot n with state := .free }) hn rfl d
  rw [freeSlot_device, h, hs d]

/-- A slot rewritten with its device, and not made FREE or filled, keeps the law of references. -/
theorem setSlot_referenceLaw {s : State} {n : SlotId} {w : Slot} (hs : ReferenceLaw s)
    (hf : w.state = .free ↔ (s.slot n).state = .free) (hd : w.device = (s.slot n).device) :
    ReferenceLaw (s.setSlot n w) := fun d => by
  rw [references_keep hf hd, ← hs d]; rfl

theorem editable_not_free {w : Slot} (h : w.editable = true) : w.state ≠ .free := by
  intro e; simp [Slot.editable, e] at h

theorem retireTaken_referenceLaw {s : State} {n : SlotId} (staged : Bool) (hs : ReferenceLaw s)
    (he : (s.slot n).editable = true) : ReferenceLaw (retireTaken n staged s) := by
  have hn := editable_not_free he
  unfold retireTaken; split
  · exact freeSlot_referenceLaw hs hn
  · split
    · exact setSlot_referenceLaw hs (by simpa using hn) rfl
    · split
      · exact freeSlot_referenceLaw hs hn
      · exact setSlot_referenceLaw hs (by simpa using hn) rfl

theorem discardAll_missPolicy (s : State) : (discardAll s).missPolicy = s.missPolicy := by rw [discardAll]

theorem discardAll_fallbackDevice (s : State) : (discardAll s).fallbackDevice = s.fallbackDevice := by rw [discardAll]

theorem applyPublish_missPolicy (s : State) : (applyPublish s).missPolicy = s.missPolicy := by rw [applyPublish]

theorem applyPublish_fallbackDevice (s : State) : (applyPublish s).fallbackDevice = s.fallbackDevice := by
  rw [applyPublish]

theorem discardAll_device (s : State) (d : Device) : (discardAll s).device d =
    { s.device d with
      refCount := (s.device d).refCount -
        countSlots (fun w => (w.state == .staged) && decide (w.device = d)) s.slots } := by
  rw [device_def, discardAll, dropReferences_getElem]

theorem discardAll_references (s : State) (d : Device) : references (discardAll s) d =
    references s d - countSlots (fun w => (w.state == .staged) && decide (w.device = d)) s.slots := by
  refine references_dropped (p := fun w => w.state == .staged) (discardAll_missPolicy s)
    (discardAll_fallbackDevice s) fun n => ?_
  rw [discardAll_slot]; unfold Slot.discard refersTo
  cases hq : (s.slot n).state <;> by_cases hd : (s.slot n).device = d <;> simp [hd, hq]

theorem discardAll_referenceLaw {s : State} (hs : ReferenceLaw s) : ReferenceLaw (discardAll s) := fun d => by
  rw [discardAll_device, discardAll_references, hs d]

/-! ## The fallback's reference (R127) -/

/-- The reference that a fallback setting holds on a device. -/
theorem writeMissPolicy_references (p : MissPolicy) (d : Device) (w : Fin 16) (s : State) (e : Device) :
    references (writeMissPolicy p d w s) e =
      countSlots (refersTo e) s.slots + if p = .fallback ∧ d = e then 1 else 0 := by
  rw [references_eq]
  have hs : (writeMissPolicy p d w s).slots = s.slots :=
    vector_ext_fin fun n => writeMissPolicy_slot p d w s n
  rw [hs]; rfl

theorem dropFallback_device (s : State) (e : Device) : (dropFallback s).device e =
    { s.device e with refCount := (s.device e).refCount - fallbackRefers s e } := by
  unfold dropFallback fallbackRefers
  cases s.missPolicy
  · simp
  · simp [dropReference_device, eq_comm]

theorem takeFallback_device (p : MissPolicy) (d : Device) (s : State) (e : Device) : (takeFallback p d s).device e =
    { s.device e with refCount := (s.device e).refCount + if p = .fallback ∧ d = e then 1 else 0 } := by
  unfold takeFallback
  cases p
  · simp
  · simp [addReference_device, eq_comm]

/-- Under the law of references the devices keep everything but the reference count, which follows the new setting. -/
theorem writeMissPolicy_device {s : State} (hs : ReferenceLaw s) (p : MissPolicy) (d : Device) (w : Fin 16)
    (e : Device) : (writeMissPolicy p d w s).device e =
      { s.device e with refCount := references (writeMissPolicy p d w s) e } := by
  have h : (writeMissPolicy p d w s).device e = (takeFallback p d (dropFallback s)).device e := rfl
  rw [h, takeFallback_device, dropFallback_device, writeMissPolicy_references, hs e, references_eq,
    Nat.add_sub_cancel]

theorem writeMissPolicy_referenceLaw {s : State} (hs : ReferenceLaw s) (p : MissPolicy) (d : Device) (w : Fin 16) :
    ReferenceLaw (writeMissPolicy p d w s) := fun e => by
  rw [writeMissPolicy_device hs]

/-! ## Named devices are present (R5) -/

/-- The law of named devices survives where no slot begins to name a device and no device goes ABSENT. -/
theorem NamedDeviceLaw.of_named {s t : State} (hs : NamedDeviceLaw s)
    (hn : ∀ n, (t.slot n).state ≠ .free → (s.slot n).state ≠ .free ∧ (t.slot n).device = (s.slot n).device)
    (hp : t.missPolicy = s.missPolicy) (hf : t.fallbackDevice = s.fallbackDevice)
    (ha : ∀ d, (t.device d).residency = .absent → (s.device d).residency = .absent) : NamedDeviceLaw t := by
  refine ⟨fun n h => ?_, fun h => ?_⟩
  · obtain ⟨hne, hd⟩ := hn n h
    rw [hd]
    exact fun e => hs.1 n hne (ha _ e)
  · rw [hf]
    exact fun e => hs.2 (hp ▸ h) (ha _ e)

/-- With the boot window alone, D0 alone has to be present. -/
theorem namedDevice_of_boot {t : State} (h : ∀ n, n ≠ 0 → (t.slot n).state = .free) (hd : (t.slot 0).device = 0)
    (h0 : (t.device 0).residency ≠ .absent) (hp : t.missPolicy = .abort) : NamedDeviceLaw t := by
  refine ⟨fun n hn => ?_, fun h => by rw [hp] at h; cases h⟩
  have : n = 0 := by by_contra e; exact hn (h n e)
  rw [this, hd]
  exact h0

theorem powerOnState_named (x : Straps) (s : State) : NamedDeviceLaw (powerOnState x s) :=
  namedDevice_of_boot (fun n hn => by rw [powerOnState_slot, if_neg hn]; rfl)
    (by rw [powerOnState_slot, if_pos rfl]; rfl) (by rw [powerOnState_device, if_pos rfl]; simp [bootDevice]) rfl

theorem opened_named {q : OpenRequest} {s : State} (hs : NamedDeviceLaw s)
    (ha : (s.device q.device).residency ≠ .absent) : NamedDeviceLaw (opened q s) := by
  refine ⟨fun n hn => ?_, fun h => by rw [opened_device]; exact hs.2 h⟩
  rw [opened_slot] at hn ⊢
  rw [opened_device]
  split
  · exact ha
  · next hne => rw [if_neg hne] at hn; exact hs.1 n hn

theorem retireTaken_frame (n : SlotId) (staged : Bool) (s : State) :
    (retireTaken n staged s).missPolicy = s.missPolicy ∧ (retireTaken n staged s).fallbackDevice = s.fallbackDevice ∧
      ∀ d, ((retireTaken n staged s).device d).residency = (s.device d).residency := by
  have freed : ∀ d, ((freeSlot n s).device d).residency = (s.device d).residency := fun d => by rw [freeSlot_device]
  unfold retireTaken; split
  · exact ⟨rfl, rfl, freed⟩
  · split
    · exact ⟨rfl, rfl, fun _ => rfl⟩
    · split
      · exact ⟨rfl, rfl, freed⟩
      · exact ⟨rfl, rfl, fun _ => rfl⟩

theorem retireTaken_named {s : State} {n : SlotId} (staged : Bool) (hs : NamedDeviceLaw s)
    (he : (s.slot n).editable = true) : NamedDeviceLaw (retireTaken n staged s) := by
  obtain ⟨hp, hf, ha⟩ := retireTaken_frame n staged s
  refine hs.of_named (fun k hk => ?_) hp hf fun d => by rw [ha]; exact id
  obtain ⟨x, hx, hc⟩ := retireTaken_slot n staged s k
  rw [hx] at hk ⊢
  refine ⟨?_, rfl⟩
  rcases hc with rfl | ⟨rfl, _⟩
  · exact hk
  · exact editable_not_free he

theorem discard_not_free {w : Slot} (h : w.discard.state ≠ .free) : w.state ≠ .free := by
  intro e; simp [Slot.discard, e] at h

theorem publish_not_free {w : Slot} (h : w.publish.state ≠ .free) : w.state ≠ .free := by
  intro e; simp [Slot.publish, e] at h

theorem softResetZero_present (r : DeviceRecord) (x : Straps) : (r.softResetZero x).residency ≠ .absent := by
  unfold DeviceRecord.softResetZero; split
  · next h => simp [h]
  all_goals simp [bootDevice]

theorem forgotten_named {s : State} {d : Device} (hr : ReferenceLaw s) (hs : NamedDeviceLaw s)
    (h0 : (s.device d).refCount = 0) : NamedDeviceLaw (s.setDevice d (s.device d).forget) := by
  rw [hr d] at h0
  obtain ⟨hn, hf⟩ := unnamed_of_references_zero h0
  refine ⟨fun n h => ?_, fun h => ?_⟩
  · rw [device_setDevice, setDevice_slot, if_neg (hn n h)]; exact hs.1 n h
  · rw [device_setDevice, setDevice_fallbackDevice, if_neg (hf h)]; exact hs.2 h

theorem writeMissPolicy_named {s : State} {p : MissPolicy} {d : Device} (w : Fin 16) (hr : ReferenceLaw s)
    (hs : NamedDeviceLaw s) (h : ¬ (p = .fallback ∧ (s.device d).residency = .absent)) :
    NamedDeviceLaw (writeMissPolicy p d w s) := by
  refine ⟨fun n hn => ?_, fun hp => ?_⟩ <;> rw [writeMissPolicy_device hr]
  · rw [writeMissPolicy_slot] at hn ⊢; exact hs.1 n hn
  · exact fun ha => h ⟨hp, ha⟩

/-! ## The law -/

theorem references_law : DirectoryLaw fun s => ReferenceLaw s ∧ NamedDeviceLaw s where
  ages s t := fun ⟨hr, hn⟩ h => by
    refine ⟨h.references hr, hn.of_named (fun n hf => ?_) h.missPolicy h.fallbackDevice h.present⟩
    rw [← (h.slot n).not_free hf, (h.slot n).1]
    exact ⟨hf, rfl⟩
  low s _ := ⟨heldInReset_referenceLaw s, fun n hn => absurd (by rw [heldInReset_slot]; rfl) hn,
    fun h => by cases h⟩
  high x s _ := ⟨powerOnState_referenceLaw x s, powerOnState_named x s⟩
  opened q s := fun ⟨hr, hn⟩ _ h =>
    ⟨opened_referenceLaw hr (openResult_ok h).1, opened_named hn (openResult_ok h).2⟩
  amended n e p wt g x s := fun ⟨hr, hn⟩ _ => by
    refine ⟨setSlot_referenceLaw hr Iff.rfl rfl, hn.of_named (fun k hk => ?_) rfl rfl fun _ => id⟩
    rw [slot_setSlot] at hk ⊢
    split at hk
    · next h => rw [if_pos h, h]; exact ⟨hk, rfl⟩
    · next h => rw [if_neg h]; exact ⟨hk, rfl⟩
  retired n staged s := fun ⟨hr, hn⟩ he => ⟨retireTaken_referenceLaw staged hr he, retireTaken_named staged hn he⟩
  discarded s := fun ⟨hr, hn⟩ => by
    refine ⟨discardAll_referenceLaw hr, hn.of_named (fun n h => ?_) (discardAll_missPolicy s)
      (discardAll_fallbackDevice s) fun d => ?_⟩
    · rw [discardAll_slot] at h ⊢
      exact ⟨discard_not_free h, by rw [discard_window]⟩
    · rw [discardAll_device]; exact id
  published s := fun ⟨hr, hn⟩ _ => by
    refine ⟨applyPublish_referenceLaw hr, hn.of_named (fun n h => ?_) (applyPublish_missPolicy s)
      (applyPublish_fallbackDevice s) fun d => ?_⟩
    · rw [applyPublish_slot] at h ⊢
      exact ⟨publish_not_free h, by rw [publish_window]⟩
    · rw [applyPublish_device]; exact id
  forgotten d s := fun ⟨hr, hn⟩ h => by
    refine ⟨fun e => ?_, forgotten_named hr hn h⟩
    have he : references (s.setDevice d (s.device d).forget) e = references s e := rfl
    rw [device_setDevice, he, ← hr e]
    split
    · next hd => rw [hd]; rfl
    · rfl
  policy p d w s := fun ⟨hr, hn⟩ h => ⟨writeMissPolicy_referenceLaw hr p d w, writeMissPolicy_named w hr hn h⟩
  rebuilt s _ := ⟨completeSoftReset_referenceLaw s,
    namedDevice_of_boot (fun n hn => by rw [completeSoftReset_slot, if_neg hn]; rfl)
      (by rw [completeSoftReset_slot, if_pos rfl]; rfl)
      (by rw [completeSoftReset_device, if_pos rfl]; exact softResetZero_present _ _) rfl⟩

/-- Settles O54: the reference counts and the presence of every named device are a law of the directory. -/
theorem stepKeepsTheReferences : Obligations.StepKeepsTheReferences :=
  fun _ _ hr hn h => step_keeps references_law.keeps h ⟨hr, hn⟩

end Sys2Proof.Machine
end

section
/-! SUPPORT. Every claim in flight stands in a list or holds the bus, and none is in flight during a soft reset: the
part of the law of places (R29, R49) that the bound counts need at the start and the completion of a soft reset, kept
by every effect. -/

namespace Sys2Proof.Machine

/-- Every claim in flight stands in a list or holds the bus (R29). -/
def Covered (s : State) : Prop := ∀ m, (s.claim m).isSome = true → m ∈ inFlight s

/-- Every claim in flight is in a place, and none is in flight during a soft reset (R29, R49). -/
def ClaimsCovered (s : State) : Prop := Covered s ∧ (softResetting s = true → ∀ m, s.claim m = none)

theorem PlacesLaw.covered {s : State} (h : PlacesLaw s) : ClaimsCovered s :=
  ⟨fun m => (mem_inFlight h m).mpr, by obtain ⟨_, _, _, _, _, _, _, _, h⟩ := h; exact h⟩

theorem mem_inFlight_iff (s : State) (m : Master) : m ∈ inFlight s ↔
    m ∈ s.interceptList ∨ m ∈ s.holdList ∨ m ∈ s.readyList ∨ s.cycle.map DeviceCycle.master = some m := by
  simp only [inFlight, List.mem_append, mem_activeMaster, or_assoc]

/-- A master that has a claim after a change had it before, and its claim has not lost its place. -/
structure Stays (s t : State) (k : Master) : Prop where
  stays : (t.claim k).isSome = true → (s.claim k).isSome = true ∧ (k ∈ inFlight s → k ∈ inFlight t)

theorem Stays.refl (s : State) (k : Master) : Stays s s k := ⟨fun h => ⟨h, id⟩⟩

theorem Stays.trans {s t u : State} {k : Master} (h : Stays s t k) (g : Stays t u k) : Stays s u k := by
  refine ⟨fun hu => ?_⟩
  obtain ⟨ht, htu⟩ := g.stays hu
  obtain ⟨hs, hst⟩ := h.stays ht
  exact ⟨hs, htu ∘ hst⟩

theorem Covered.of_stays {s t : State} (hs : Covered s) (h : ∀ k, Stays s t k) : Covered t := fun k hk =>
  ((h k).stays hk).2 (hs k ((h k).stays hk).1)

theorem softResetting_congr {s t : State} (h : t.port = s.port) : softResetting t = softResetting s := by
  unfold softResetting; rw [h]

theorem ClaimsCovered.of_stays {s t : State} (hs : ClaimsCovered s) (hp : softResetting t = softResetting s)
    (h : ∀ k, Stays s t k) : ClaimsCovered t := by
  refine ⟨hs.1.of_stays h, fun ht m => ?_⟩
  rw [hp] at ht
  by_contra hm
  have := ((h m).stays (Option.isSome_iff_ne_none.mpr hm)).1
  rw [hs.2 ht m] at this
  cases this

/-- Outside a soft reset the places are all there is to the law. -/
theorem Covered.running {s : State} (hs : Covered s) (h : softResetting s = false) : ClaimsCovered s :=
  ⟨hs, fun h' => by rw [h] at h'; cases h'⟩

theorem claimsCovered_empty {s : State} (h : ∀ m, s.claim m = none) : ClaimsCovered s :=
  ⟨fun m hm => by simp [h m] at hm, fun _ => h⟩

/-- A change that leaves the claim records, the lists and the bus alone. -/
theorem stays_of_eq {s t : State} (hc : t.claims = s.claims) (hi : t.interceptList = s.interceptList)
    (hh : t.holdList = s.holdList) (hr : t.readyList = s.readyList) (hb : t.cycle = s.cycle) (k : Master) :
    Stays s t k := by
  refine ⟨?_⟩
  rw [claim_def, claim_def, hc, mem_inFlight_iff, mem_inFlight_iff, hi, hh, hr, hb]
  exact fun h => ⟨h, id⟩

/-! ## Answers and placings -/

theorem giveAnswer_claim (m k : Master) (r : Reason) (x : DataWord) (s : State) :
    (giveAnswer m r x s).claim k = if k = m then none else s.claim k := vector_set_getElem s.claims m k none

theorem giveAnswer_stays (m : Master) (r : Reason) (x : DataWord) (s : State) (k : Master) :
    Stays s (giveAnswer m r x s) k := by
  refine ⟨?_⟩
  rw [giveAnswer_claim]; split
  · intro h; cases h
  · exact fun h => ⟨h, id⟩

theorem answerClaim_port (m : Master) (a : Access) (r : Reason) (x : DataWord) (s : State) :
    (answerClaim m a r x s).port = s.port := by rw [answerClaim_frame]

theorem answerClaim_stays (m : Master) (a : Access) (r : Reason) (x : DataWord) (s : State) (k : Master) :
    Stays s (answerClaim m a r x s) k := by
  refine ⟨?_⟩
  rw [answerClaim_claim]
  split
  · intro h; cases h
  · next hk =>
    refine fun h => ⟨h, ?_⟩
    rw [mem_inFlight_iff, mem_inFlight_iff, answerClaim_frame]
    simp only [List.mem_filter, decide_eq_true_eq, hk, ne_eq, not_false_eq_true, and_true]
    refine Or.imp_right (Or.imp_right (Or.imp_right fun hb => ?_))
    obtain ⟨cy, hcy, rfl⟩ := Option.map_eq_some_iff.mp hb
    rw [hcy, Option.filter_some, if_pos (by simpa using hk)]
    rfl

/-- Lists that only grow keep a claim where it is. -/
theorem stays_of_longer {s t : State} {k : Master} (hc : t.claim k = s.claim k)
    (hi : k ∈ s.interceptList → k ∈ t.interceptList) (hh : k ∈ s.holdList → k ∈ t.holdList)
    (hr : k ∈ s.readyList → k ∈ t.readyList) (hb : t.cycle = s.cycle) : Stays s t k := by
  refine ⟨?_⟩
  rw [hc, mem_inFlight_iff, mem_inFlight_iff, hb]
  exact fun h => ⟨h, Or.imp hi (Or.imp hh (Or.imp hr id))⟩

theorem enterReady_stays {m k : Master} (a : Access) (s : State) (hk : k ≠ m) : Stays s (enterReady m a s) k :=
  stays_of_longer (by rw [enterReady_claim, if_neg hk]) id id (List.mem_append_left _) rfl

theorem enterHold_stays {m k : Master} (a : Access) (s : State) (hk : k ≠ m) : Stays s (enterHold m a s) k :=
  stays_of_longer (by rw [enterHold_claim, if_neg hk]) id (List.mem_append_left _) id rfl

theorem enterIntercept_stays {m k : Master} (a : Access) (s : State) (hk : k ≠ m) :
    Stays s (enterIntercept m a s) k :=
  stays_of_longer (by rw [enterIntercept_claim, if_neg hk]) (List.mem_append_left _) id id rfl

/-- The port stays, the other claims stay in their places, and the master's claim has ended or stands in a place. -/
structure PlacesClaim (m : Master) (s t : State) : Prop where
  port : t.port = s.port
  others : ∀ k, k ≠ m → Stays s t k
  own : (t.claim m).isSome = true → m ∈ inFlight t

/-- A change before it that leaves the port and the other claims in their places does no harm. -/
theorem PlacesClaim.after {m : Master} {s t u : State} (h : PlacesClaim m t u) (hp : t.port = s.port)
    (hk : ∀ k, k ≠ m → Stays s t k) : PlacesClaim m s u :=
  ⟨h.port.trans hp, fun k e => (hk k e).trans (h.others k e), h.own⟩

theorem PlacesClaim.covered {m : Master} {s t : State} (h : PlacesClaim m s t) (hs : Covered s) : Covered t := by
  intro k hk
  by_cases e : k = m
  · rw [e] at hk ⊢
    exact h.own hk
  · obtain ⟨before, place⟩ := (h.others k e).stays hk
    exact place (hs k before)

theorem answerClaim_places (m : Master) (a : Access) (r : Reason) (x : DataWord) (s : State) :
    PlacesClaim m s (answerClaim m a r x s) :=
  ⟨answerClaim_port .., fun k _ => answerClaim_stays m a r x s k, fun h => by
    rw [answerClaim_claim, if_pos rfl] at h; cases h⟩

theorem giveAnswer_places (m : Master) (r : Reason) (x : DataWord) (s : State) :
    PlacesClaim m s (giveAnswer m r x s) :=
  ⟨rfl, fun k _ => giveAnswer_stays m r x s k, fun h => by rw [giveAnswer_claim, if_pos rfl] at h; cases h⟩

theorem enterReady_places (m : Master) (a : Access) (s : State) : PlacesClaim m s (enterReady m a s) :=
  ⟨rfl, fun _ => enterReady_stays a s, fun _ => by simp [mem_inFlight_iff, enterReady]⟩

theorem enterHold_places (m : Master) (a : Access) (s : State) : PlacesClaim m s (enterHold m a s) :=
  ⟨rfl, fun _ => enterHold_stays a s, fun _ => by simp [mem_inFlight_iff, enterHold]⟩

theorem enterIntercept_places (m : Master) (a : Access) (s : State) : PlacesClaim m s (enterIntercept m a s) :=
  ⟨rfl, fun _ => enterIntercept_stays a s, fun _ => by simp [mem_inFlight_iff, enterIntercept]⟩

theorem residencyStep_places (m : Master) (a : Access) (s : State) : PlacesClaim m s (residencyStep m a s) := by
  have woken : ∀ k, Stays s (startWake a.device s) k := stays_of_eq rfl rfl rfl rfl rfl
  rcases residencyStep_cases m a s with ⟨_, h⟩ | ⟨_, h⟩ | ⟨_, h⟩ | ⟨_, r, _, h⟩ <;> rw [h]
  · exact enterReady_places m a s
  · exact enterHold_places m a s
  · exact (enterHold_places m a _).after rfl fun k _ => woken k
  · exact answerClaim_places ..

theorem decideClaim_places (m : Master) (a : Address) (dir : Direction) (w : Width) (x : DataWord) (s : State) :
    PlacesClaim m s (decideClaim m a dir w x s) := by
  unfold decideClaim; split
  · exact giveAnswer_places ..
  · exact giveAnswer_places ..
  · exact residencyStep_places ..
  · next n _ =>
    have bound : ∀ k, Stays s (raiseBound n s) k := stays_of_eq rfl rfl rfl rfl rfl
    have after : ∀ {u}, PlacesClaim m (raiseBound n s) u → PlacesClaim m s u := fun h =>
      h.after rfl fun k _ => bound k
    simp only; split
    · exact after (answerClaim_places ..)
    · split
      · exact after (enterIntercept_places ..)
      · exact after (residencyStep_places ..)

theorem takeClaim_covered {s : State} (hs : ClaimsCovered s) (m : Master) (a : Address) (dir : Direction) (w : Width)
    (x : DataWord) : ClaimsCovered (takeClaim m a dir w x s) := by
  have marked : ∀ k, Stays s (s.setMarker m false) k := stays_of_eq rfl rfl rfl rfl rfl
  unfold takeClaim; simp only; split
  · exact hs.of_stays rfl fun k => (marked k).trans (giveAnswer_stays ..)
  · next h =>
    rw [Bool.not_eq_true] at h
    have placed := decideClaim_places m a dir w x (s.setMarker m false)
    exact Covered.running (placed.covered (hs.1.of_stays marked)) ((softResetting_congr placed.port).trans h)

/-! ## The other events -/

theorem grantHead_stays {m : Master} {rest : List Master} {c : Claim} {s : State} (hcy : s.cycle = none)
    (hr : s.readyList = m :: rest) (hm : s.claim m = some c) (k : Master) : Stays s (grantHead m rest c s) k := by
  have hc : (grantHead m rest c s).claim k = if k = m then some { c with phase := .active, timer := none }
      else s.claim k := vector_set_getElem s.claims m k _
  refine ⟨?_⟩
  rw [hc, mem_inFlight_iff, mem_inFlight_iff, hcy, hr]
  by_cases hk : k = m
  · subst hk
    simp [hm, grantHead, cycleOf]
  · rw [if_neg hk]
    refine fun h => ⟨h, ?_⟩
    simp [grantHead, hk]
    tauto

theorem answerAll_stays (ms : List Master) (r : Reason) (s : State) (k : Master) : Stays s (answerAll ms r s) k := by
  induction ms generalizing s with
  | nil => exact .refl s k
  | cons m ms ih =>
    rw [answerAll_cons]
    refine .trans ?_ (ih _)
    unfold answerMaster; split
    · exact answerClaim_stays ..
    · exact .refl s k

theorem answerAll_port (ms : List Master) (r : Reason) (s : State) : (answerAll ms r s).port = s.port := by
  induction ms generalizing s with
  | nil => rfl
  | cons m ms ih =>
    rw [answerAll_cons, ih]
    unfold answerMaster; split
    · exact answerClaim_port ..
    · rfl

theorem reloadIdle_eq (d : Device) (s : State) : reloadIdle d s = { s with devices := (reloadIdle d s).devices } := by
  unfold reloadIdle; split <;> rfl

theorem reloadIdle_stays (d : Device) (s : State) :
    (reloadIdle d s).port = s.port ∧ ∀ k, Stays s (reloadIdle d s) k := by
  rw [reloadIdle_eq]; exact ⟨rfl, stays_of_eq rfl rfl rfl rfl rfl⟩

theorem endPark_stays (d : Device) (s : State) :
    (endPark d s).port = s.port ∧ ∀ k, Stays s (endPark d s) k := by
  rw [endPark_eq]; exact ⟨rfl, stays_of_eq rfl rfl rfl rfl rfl⟩

theorem complete_stays (m : Master) (a : Access) (dd : DataWord) (s : State) :
    (complete m a dd s).port = s.port ∧ ∀ k, Stays s (complete m a dd s) k := by
  obtain ⟨hr, kr⟩ := reloadIdle_stays a.device (answerClaim m a .done (answerData a.direction a.width dd) s)
  obtain ⟨hp, kp⟩ := endPark_stays a.device
    (reloadIdle a.device (answerClaim m a .done (answerData a.direction a.width dd) s))
  exact ⟨hp.trans (hr.trans (answerClaim_port ..)), fun k => ((answerClaim_stays ..).trans (kr k)).trans (kp k)⟩

theorem tick_softResetting (s : State) : softResetting (tickAll s) = softResetting s := by
  unfold softResetting tickAll PortCondition.tick
  cases s.port.condition with
  | executing op t => cases op <;> rfl
  | _ => rfl

theorem tickAll_claim (s : State) (m : Master) : (tickAll s).claim m = (s.claim m).map Claim.tick := by
  rw [claim_def]; simp only [tickAll, mapTable_getElem]; rfl

theorem tickAll_stays (s : State) (k : Master) : Stays s (tickAll s) k := by
  refine ⟨?_⟩
  rw [tickAll_claim, Option.isSome_map]
  exact fun h => ⟨h, id⟩

theorem enterOn_stays (d : Device) (s : State) (k : Master) : Stays s (enterOn d s) k := by
  refine ⟨fun h => ⟨?_, ?_⟩⟩
  · rw [enterOn_claim] at h
    split at h
    · rwa [Option.isSome_map] at h
    · exact h
  · rw [mem_inFlight_iff, mem_inFlight_iff, enterOn_eq]
    simp only [List.mem_filter, List.mem_append]
    cases boundTo s d k
    · simp
    · simp; tauto

theorem enterOn_port (d : Device) (s : State) : (enterOn d s).port = s.port := by rw [enterOn_eq]

theorem enterFault_stays (d : Device) (cause : FaultCause) (ms : List Master) (s : State) :
    (enterFault d cause ms s).port = s.port ∧ ∀ k, Stays s (enterFault d cause ms s) k := by
  refine ⟨answerAll_port ms .deviceFault s, fun k => (answerAll_stays ms .deviceFault s k).trans ?_⟩
  have faulted : ∀ t r, ∀ k, Stays t (raise .fault (t.setDevice d r)) k := fun t r => stays_of_eq rfl rfl rfl rfl rfl
  exact faulted _ _ k

theorem endWake_stays (d : Device) (level : Bool) (s : State) :
    (endWake d level s).port = s.port ∧ ∀ k, Stays s (endWake d level s) k := by
  have sampled : ∀ k, Stays s (samplePgd d level s) k := stays_of_eq rfl rfl rfl rfl rfl
  unfold endWake; simp only; split
  · exact ⟨enterOn_port .., fun k => (sampled k).trans (enterOn_stays ..)⟩
  · obtain ⟨hp, hk⟩ := enterFault_stays d .noPowerGood
      ((samplePgd d level s).holdList.filter (boundTo (samplePgd d level s) d)) (samplePgd d level s)
    exact ⟨hp, fun k => (sampled k).trans (hk k)⟩

theorem losePower_stays (d : Device) (level : Bool) (s : State) :
    (losePower d (samplePgd d level s)).port = s.port ∧ ∀ k, Stays s (losePower d (samplePgd d level s)) k := by
  have sampled : ∀ k, Stays s (samplePgd d level s) k := stays_of_eq rfl rfl rfl rfl rfl
  unfold losePower
  obtain ⟨hp, hk⟩ := enterFault_stays d .powerLost
    ((activeMaster (samplePgd d level s) ++ (samplePgd d level s).readyList ++ (samplePgd d level s).holdList).filter
      (boundTo (samplePgd d level s) d)) (samplePgd d level s)
  exact ⟨hp, fun k => (sampled k).trans (hk k)⟩

theorem endIdle_stays (d : Device) (s : State) : (endIdle d s).port = s.port ∧ ∀ k, Stays s (endIdle d s) k := by
  unfold endIdle; split <;> exact ⟨rfl, stays_of_eq rfl rfl rfl rfl rfl⟩

/-! ## Commands -/

theorem retireTaken_stays (n : SlotId) (staged : Bool) (s : State) (k : Master) :
    Stays s (retireTaken n staged s) k := by
  have freed : ∀ k, Stays s (freeSlot n s) k := stays_of_eq rfl rfl rfl rfl rfl
  have moved : ∀ w, ∀ k, Stays s (s.setSlot n w) k := fun w => stays_of_eq rfl rfl rfl rfl rfl
  unfold retireTaken; split
  · exact freed k
  · split
    · exact moved _ k
    · split
      · exact freed k
      · exact moved _ k

theorem writeMissPolicy_stays (p : MissPolicy) (d : Device) (w : Fin 16) (s : State) :
    ∀ k, Stays s (writeMissPolicy p d w s) k := by
  unfold writeMissPolicy takeFallback dropFallback
  cases p <;> cases s.missPolicy <;> exact stays_of_eq rfl rfl rfl rfl rfl

/-- A verdict moves the caught claim or ends it, and leaves the other claims in their places (R102 to R104). -/
theorem applyVerdict_covered {s : State} (hs : Covered s) (v : Verdict) (m : Master) (c : Claim) (x : DataWord)
    (hm : s.claim m = some c) : Covered (applyVerdict v m c x s) := by
  have ended : ∀ {t} a r y, (∀ k, Stays s t k) → Covered (answerClaim m a r y t) := fun a r y ht =>
    hs.of_stays fun k => (ht k).trans (answerClaim_stays m a r y _ k)
  cases v with
  | pass =>
    have leaves : ∀ k, k ≠ m → Stays s { s with interceptList := s.interceptList.filter fun x => decide (x ≠ m) } k :=
      fun k e => stays_of_longer rfl (fun h => List.mem_filter.mpr ⟨h, decide_eq_true e⟩) id id rfl
    have placed : PlacesClaim m s (applyVerdict .pass m c x s) :=
      (residencyStep_places m c.access _).after rfl leaves
    exact placed.covered hs
  | refuse => exact ended _ _ _ (Stays.refl s)
  | supply =>
    refine ended _ _ _ fun k => ⟨fun h => ⟨?_, id⟩⟩
    rw [claim_setClaim] at h
    split at h
    · next e => rw [e, hm]; rfl
    · exact h

theorem applyPublish_stays (s : State) (k : Master) : Stays s (applyPublish s) k :=
  stays_of_eq (t := applyPublish s) (by rw [applyPublish]) (by rw [applyPublish]) (by rw [applyPublish])
    (by rw [applyPublish]) (by rw [applyPublish]) k

theorem discardAll_stays (s : State) (k : Master) : Stays s (discardAll s) k :=
  stays_of_eq (t := discardAll s) (by rw [discardAll]) (by rw [discardAll]) (by rw [discardAll]) (by rw [discardAll])
    (by rw [discardAll]) k

theorem reply_covered {s : State} (hs : Covered s) (bs : List Byte) : ClaimsCovered (reply bs s) :=
  Covered.running (hs.of_stays (stays_of_eq rfl rfl rfl rfl rfl)) rfl

theorem covered_effects {s : State} (hs : Covered s) : CommandEffects Covered s where
  nothing := hs
  defined _ _ _ _ _ _ := hs.of_stays (stays_of_eq rfl rfl rfl rfl rfl)
  forgotten _ _ _ := hs.of_stays (stays_of_eq rfl rfl rfl rfl rfl)
  woken _ _ := hs.of_stays (stays_of_eq rfl rfl rfl rfl rfl)
  reentered d _ := hs.of_stays (enterOn_stays d s)
  parking _ _ _ := hs.of_stays (stays_of_eq rfl rfl rfl rfl rfl)
  parked _ _ := hs.of_stays (stays_of_eq rfl rfl rfl rfl rfl)
  cleared _ _ := hs.of_stays (stays_of_eq rfl rfl rfl rfl rfl)
  opened _ _ _ := hs.of_stays (stays_of_eq rfl rfl rfl rfl rfl)
  amended _ _ _ _ _ _ _ := hs.of_stays (stays_of_eq rfl rfl rfl rfl rfl)
  retired n staged _ := hs.of_stays (retireTaken_stays n staged s)
  untouched _ := hs.of_stays (stays_of_eq rfl rfl rfl rfl rfl)
  discarded := hs.of_stays (discardAll_stays s)
  verdict v m c x h := by
    unfold caughtClaim at h
    split at h
    · exact applyVerdict_covered hs v m c x h
    · cases h
  policy p d w _ := hs.of_stays (writeMissPolicy_stays p d w s)
  limits _ _ := hs.of_stays (stays_of_eq rfl rfl rfl rfl rfl)
  mask _ := hs.of_stays (stays_of_eq rfl rfl rfl rfl rfl)
  flags _ := hs.of_stays (stays_of_eq rfl rfl rfl rfl rfl)

/-- When every claim stands in a list or holds the bus, the start of a soft reset leaves none in flight (R48). -/
theorem cmdSoftReset_claim {s : State} (hs : Covered s) (m : Master) : (cmdSoftReset s).claim m = none := by
  have h : (cmdSoftReset s).claim m = (answerAll (inFlight s) .reset s).claim m := by
    unfold cmdSoftReset answerAllReset inFlight
    generalize answerAll _ .reset s = t
    rfl
  rw [h, answerAll_claim]
  split
  · rfl
  · next hm =>
    by_contra hc
    exact hm (hs m (Option.isSome_iff_ne_none.mpr hc))

theorem heldInReset_claim (s : State) (m : Master) : (heldInReset s).claim m = none := by
  simp [claim_def, heldInReset, powerOnState]

theorem powerOnState_claim (x : Straps) (s : State) (m : Master) : (powerOnState x s).claim m = none := by
  simp [claim_def, powerOnState]

theorem completeSoftReset_stays (s : State) (k : Master) : Stays s (completeSoftReset s) k := by
  refine stays_of_eq ?_ ?_ ?_ ?_ ?_ k <;> rw [completeSoftReset, replyResult, reply]

theorem covered_decoder {s : State} (hs : Covered s) : DecoderKeeps ClaimsCovered s :=
  (covered_effects hs).decoder (fun bs _ ht => reply_covered ht bs)
    (Covered.running (hs.of_stays (stays_of_eq rfl rfl rfl rfl rfl)) rfl) (claimsCovered_empty (cmdSoftReset_claim hs))

theorem claimsCovered_keeps : Keeps ClaimsCovered where
  same s t hs h := hs.of_stays h.1 (stays_of_eq (by rw [h.2]) (by rw [h.2]) (by rw [h.2]) (by rw [h.2]) (by rw [h.2]))
  arrival m a dir w x _ hs _ := takeClaim_covered hs m a dir w x
  grant _ _ _ _ hs hcy hr hm := hs.of_stays rfl (grantHead_stays hcy hr hm)
  completion cy c dd s hs _ _ :=
    hs.of_stays (softResetting_congr (complete_stays ..).1) (complete_stays cy.master c.access dd s).2
  tick s hs := hs.of_stays (tick_softResetting s) (tickAll_stays s)
  wake d level s hs _ := hs.of_stays (softResetting_congr (endWake_stays ..).1) (endWake_stays d level s).2
  idle d s hs _ _ := hs.of_stays (softResetting_congr (endIdle_stays ..).1) (endIdle_stays d s).2
  hold _ _ _ hs _ _ := hs.of_stays (softResetting_congr (answerClaim_port ..)) (answerClaim_stays _ _ _ _ _)
  intercept m c s hs _ _ := by
    have marked : ∀ t, ∀ k, Stays t (t.setMarker m true) k := fun t => stays_of_eq rfl rfl rfl rfl rfl
    exact hs.of_stays (softResetting_congr (answerClaim_port ..)) fun k =>
      (answerClaim_stays _ _ _ _ _ k).trans (marked _ k)
  departure d level s hs _ _ :=
    hs.of_stays (softResetting_congr (losePower_stays ..).1) (losePower_stays d level s).2
  low s _ := claimsCovered_empty (heldInReset_claim s)
  high x s _ := claimsCovered_empty (powerOnState_claim x s)
  bus s _ := claimsCovered_empty (busReset_claim s)
  record code params _ hs _ := runRecord_of (covered_decoder hs.1) code params
  unknown _ hs _ := reply_covered hs.1 _
  published s _ hs _ := by
    have done : ∀ bs t, Covered t → ClaimsCovered (raise .done (reply bs t)) := fun bs t ht =>
      (reply_covered ht bs).of_stays rfl (stays_of_eq rfl rfl rfl rfl rfl)
    unfold completePublish; split
    · exact done _ _ hs.1
    · exact done _ _ (hs.1.of_stays (applyPublish_stays s))
  rebuilt s _ hs _ := Covered.running (hs.1.of_stays (completeSoftReset_stays s)) rfl

end Sys2Proof.Machine
end

section
/-! PROOF. The bound counts (O56): each is the number of claims in flight bound to its slot. -/

namespace Sys2Proof.Machine

/-! ## Counting bound claims -/

/-- A count over distinct elements, of two tests that differ at one of them. -/
theorem countP_change {α : Type} {p q : α → Bool} {l : List α} {m : α} (hn : l.Nodup) (hm : m ∈ l)
    (h : ∀ k, k ≠ m → p k = q k) :
    l.countP p + (if q m then 1 else 0) = l.countP q + (if p m then 1 else 0) := by
  induction l with
  | nil => cases hm
  | cons a l ih =>
    obtain ⟨ha, hl⟩ := List.nodup_cons.mp hn
    rw [List.countP_cons, List.countP_cons]
    rcases List.mem_cons.mp hm with rfl | hm
    · have : l.countP p = l.countP q :=
        List.countP_congr fun k hk => by rw [h k fun e => ha (e ▸ hk)]
      omega
    · have := ih hl hm
      rw [h a fun e => ha (e ▸ hm)]
      omega

/-- When one channel changes, the claims bound to a slot change by that channel alone. -/
theorem boundAmong_change {s t : State} {m : Master} (h : ∀ k, k ≠ m → t.slotOf k = s.slotOf k) (n : SlotId) :
    boundAmong t allMasters n + (if s.slotOf m = some n then 1 else 0) =
      boundAmong s allMasters n + (if t.slotOf m = some n then 1 else 0) := by
  have := countP_change (p := fun k => decide (t.slotOf k = some n)) (q := fun k => decide (s.slotOf k = some n))
    (List.nodup_finRange 4) (List.mem_finRange m) fun k hk => by rw [h k hk]
  simpa [boundAmong, allMasters] using this

theorem boundAmong_eq_zero {s : State} {n : SlotId} : boundAmong s allMasters n = 0 ↔ ∀ m, s.slotOf m ≠ some n := by
  simp [boundAmong, List.countP_eq_zero, allMasters]

/-- The record part of a master's claim, which its flight does not change (R34). -/
def State.accessOf (s : State) (m : Master) : Option Access := (s.claim m).map Claim.access

theorem slotOf_eq (s : State) (m : Master) : s.slotOf m = (s.accessOf m).bind fun a => a.binding.slotId := by
  unfold State.slotOf State.accessOf; cases s.claim m <;> rfl

theorem deviceOf_eq (s : State) (m : Master) : s.deviceOf m = (s.accessOf m).map Access.device := by
  unfold State.deviceOf State.accessOf; cases s.claim m <;> rfl

/-! ## The law under changes of slots or of claims alone -/

/-- The law survives where the claims keep their records and each slot its bound count, its device unless no claim is
bound, and a state that the count allows. -/
theorem BoundLaw.of_slots {s t : State} (hs : BoundLaw s) (hc : ∀ m, t.accessOf m = s.accessOf m)
    (hb : ∀ n, (t.slot n).bound = (s.slot n).bound)
    (hd : ∀ n, (t.slot n).device = (s.slot n).device ∨ (s.slot n).bound = 0)
    (hf : ∀ n, (t.slot n).state = .free ∨ (t.slot n).state = .staged → (s.slot n).bound = 0)
    (hdr : ∀ n, (t.slot n).state = .draining → 1 ≤ (s.slot n).bound) : BoundLaw t := by
  obtain ⟨count, _, _, device⟩ := hs
  have hslot : ∀ m, t.slotOf m = s.slotOf m := fun m => by rw [slotOf_eq, slotOf_eq, hc]
  have hdev : ∀ m, t.deviceOf m = s.deviceOf m := fun m => by rw [deviceOf_eq, deviceOf_eq, hc]
  refine ⟨fun n => ?_, fun n h => by rw [hb, hf n h], fun n h => by rw [hb]; exact hdr n h, fun m n h => ?_⟩
  · rw [hb, count n]
    simp only [boundAmong, hslot]
  · rw [hslot] at h
    rw [hdev, device m n h]
    rcases hd n with e | e
    · rw [e]
    · rw [count n, boundAmong_eq_zero] at e
      exact absurd h (e m)

/-- The law survives where the claims keep their records and the slots stay. -/
theorem BoundLaw.of_claims {s t : State} (hs : BoundLaw s) (hc : ∀ m, t.accessOf m = s.accessOf m)
    (hw : ∀ n, t.slot n = s.slot n) : BoundLaw t :=
  hs.of_slots hc (fun n => by rw [hw]) (fun n => by rw [hw]; exact Or.inl rfl)
    (fun n h => hs.2.1 n (by rwa [hw] at h)) fun n h => hs.2.2.1 n (by rwa [hw] at h)

theorem accessOf_of_claims {s t : State} (h : t.claims = s.claims) (m : Master) : t.accessOf m = s.accessOf m := by
  rw [State.accessOf, State.accessOf, claim_def, claim_def, h]

/-- The law reads the claim records and the slots alone. -/
theorem BoundLaw.of_eq {s t : State} (hs : BoundLaw s) (hc : t.claims = s.claims) (hw : t.slots = s.slots) :
    BoundLaw t :=
  hs.of_claims (accessOf_of_claims hc) fun n => by rw [slot_def, slot_def, hw]

/-- Without claims, the counts are 0 and no slot is DRAINING. -/
theorem boundLaw_empty {s : State} (hc : ∀ m, s.claim m = none) (hb : ∀ n, (s.slot n).bound = 0)
    (hd : ∀ n, (s.slot n).state ≠ .draining) : BoundLaw s := by
  have hslot : ∀ m, s.slotOf m = none := fun m => by rw [State.slotOf, hc]; rfl
  refine ⟨fun n => ?_, fun n _ => hb n, fun n h => absurd h (hd n), fun m n h => by simp [hslot] at h⟩
  rw [hb, eq_comm, boundAmong_eq_zero]
  intro m
  simp [hslot]

/-! ## A claim under way -/

/-- The law with the claim of a master counted as in flight with a given record, whatever its channel now holds: the
state between the binding of a claim, or its leaving of a list, and its residency step. -/
def Carries (m : Master) (a : Access) (s : State) : Prop :=
  BoundLaw (s.setClaim m (some { access := a, phase := .ready, timer := none, verdictData := none }))

theorem accessOf_setClaim (s : State) (m k : Master) (c : Option Claim) :
    (s.setClaim m c).accessOf k = if k = m then c.map Claim.access else s.accessOf k := by
  unfold State.accessOf; rw [claim_setClaim]; split <;> rfl

theorem carries_of_claim {s : State} (hs : BoundLaw s) {m : Master} {c : Claim} (hm : s.claim m = some c) :
    Carries m c.access s := by
  refine hs.of_claims (fun k => ?_) fun _ => rfl
  rw [accessOf_setClaim]
  split
  · next h => rw [h, State.accessOf, hm]; rfl
  · rfl

/-- Where the claim carried is written into its channel the law holds again. -/
theorem Carries.placed {m : Master} {a : Access} {s t : State} (hs : Carries m a s)
    (hm : t.accessOf m = some a) (hk : ∀ k, k ≠ m → t.accessOf k = s.accessOf k)
    (hw : ∀ n, t.slot n = s.slot n) : BoundLaw t := by
  refine BoundLaw.of_claims hs (fun k => ?_) hw
  rw [accessOf_setClaim]
  split
  · next h => rw [h, hm]; rfl
  · next h => exact hk k h

theorem Slot.answered_bound (w : Slot) (r : Reason) : (w.answered r).bound = w.bound - 1 := rfl

theorem Slot.answered_state (w : Slot) (r : Reason) :
    (w.answered r).state = if w.state = .draining ∧ w.bound ≤ 1 then .free else w.state := rfl

theorem slotAfterAnswer_device (s : State) (b : Binding) (r : Reason) (n : SlotId) :
    (slotAfterAnswer s b r n).device = (s.slot n).device := by
  unfold slotAfterAnswer; split <;> rfl

/-- The answer of the claim carried ends it, and its slot's count falls with it (R12, R13). -/
theorem Carries.answered {m : Master} {a : Access} {s : State} (hs : Carries m a s) (r : Reason) (x : DataWord) :
    BoundLaw (answerClaim m a r x s) := by
  obtain ⟨count, unbound, draining, device⟩ := hs
  generalize hu : s.setClaim m _ = u at count unbound draining device
  have um : u.accessOf m = some a := by rw [← hu, accessOf_setClaim, if_pos rfl]; rfl
  have uw : ∀ n, u.slot n = s.slot n := fun n => by rw [← hu]; rfl
  have tk : ∀ k, (answerClaim m a r x s).accessOf k = if k = m then none else u.accessOf k := fun k => by
    rw [State.accessOf, answerClaim_claim, ← hu, accessOf_setClaim]; split <;> rfl
  have tm : (answerClaim m a r x s).slotOf m = none := by rw [slotOf_eq, tk, if_pos rfl]; rfl
  have tn : ∀ k, k ≠ m → (answerClaim m a r x s).slotOf k = u.slotOf k := fun k hk => by
    rw [slotOf_eq, slotOf_eq, tk, if_neg hk]
  have total : ∀ n, boundAmong (answerClaim m a r x s) allMasters n +
      (if a.binding.slotId = some n then 1 else 0) = (s.slot n).bound := fun n => by
    have := boundAmong_change tn n
    rw [tm, slotOf_eq u m, um, ← count n, uw] at this
    simpa using this
  refine ⟨fun n => ?_, fun n h => ?_, fun n h => ?_, fun k n h => ?_⟩
  · have := total n
    rw [answerClaim_slot, slotAfterAnswer]
    split
    · next hb => rw [if_pos hb] at this; rw [Slot.answered_bound]; omega
    · next hb => rw [if_neg hb] at this; omega
  · have hz := unbound n
    rw [uw] at hz
    rw [answerClaim_slot, slotAfterAnswer] at h ⊢
    split at h
    · next hb =>
      rw [if_pos hb, Slot.answered_bound]
      rw [Slot.answered_state] at h
      split at h
      · omega
      · have := hz h; omega
    · next hb => rw [if_neg hb]; exact hz h
  · have hz := draining n
    rw [uw] at hz
    rw [answerClaim_slot, slotAfterAnswer] at h ⊢
    split at h
    · next hb =>
      rw [if_pos hb, Slot.answered_bound]
      rw [Slot.answered_state] at h
      split at h
      · cases h
      · next hd => have := hz h; simp only [h, true_and] at hd; omega
    · next hb => rw [if_neg hb]; exact hz h
  · have hkm : k ≠ m := fun e => by rw [e, tm] at h; cases h
    rw [tn k hkm] at h
    rw [answerClaim_slot, slotAfterAnswer_device, ← uw, ← device k n h, deviceOf_eq, deviceOf_eq, tk, if_neg hkm]

theorem enterReady_accessOf (m k : Master) (a : Access) (s : State) :
    (enterReady m a s).accessOf k = if k = m then some a else s.accessOf k := by
  rw [State.accessOf, enterReady_claim]; split <;> rfl

theorem enterHold_accessOf (m k : Master) (a : Access) (s : State) :
    (enterHold m a s).accessOf k = if k = m then some a else s.accessOf k := by
  rw [State.accessOf, enterHold_claim]; split <;> rfl

theorem enterIntercept_accessOf (m k : Master) (a : Access) (s : State) :
    (enterIntercept m a s).accessOf k = if k = m then some a else s.accessOf k := by
  rw [State.accessOf, enterIntercept_claim]; split <;> rfl

theorem Carries.residencyStep {m : Master} {a : Access} {s : State} (hs : Carries m a s) :
    BoundLaw (residencyStep m a s) := by
  rcases residencyStep_cases m a s with ⟨_, h⟩ | ⟨_, h⟩ | ⟨_, h⟩ | ⟨_, r, _, h⟩ <;> rw [h]
  · exact hs.placed (by rw [enterReady_accessOf, if_pos rfl]) (fun k hk => by rw [enterReady_accessOf, if_neg hk])
      fun _ => rfl
  · exact hs.placed (by rw [enterHold_accessOf, if_pos rfl]) (fun k hk => by rw [enterHold_accessOf, if_neg hk])
      fun _ => rfl
  · exact hs.placed (by rw [enterHold_accessOf, if_pos rfl])
      (fun k hk => by rw [enterHold_accessOf, if_neg hk]; rfl) fun _ => rfl
  · exact hs.answered r _

/-! ## Claims: arrival, answers and releases -/

theorem answered_boundLaw {s : State} (hs : BoundLaw s) {m : Master} {c : Claim} (hm : s.claim m = some c)
    (r : Reason) (x : DataWord) : BoundLaw (answerClaim m c.access r x s) :=
  (carries_of_claim hs hm).answered r x

theorem accessOf_none {s : State} {m : Master} (h : s.claim m = none) : s.accessOf m = none := by
  rw [State.accessOf, h]; rfl

/-- A claim bound to the fallback counts for no slot (R33). -/
theorem carries_fallback {s : State} (hs : BoundLaw s) {m : Master} {a : Access} (hm : s.claim m = none)
    (ha : a.binding = .fallback) : Carries m a s := by
  obtain ⟨count, unbound, draining, device⟩ := hs
  unfold Carries
  generalize hu : s.setClaim m _ = u
  have uk : ∀ k, u.accessOf k = if k = m then some a else s.accessOf k := fun k => by
    rw [← hu, accessOf_setClaim]; rfl
  have uw : ∀ n, u.slot n = s.slot n := fun n => by rw [← hu]; rfl
  have us : ∀ k, u.slotOf k = s.slotOf k := fun k => by
    rw [slotOf_eq, slotOf_eq, uk]; split
    · next e => rw [e, accessOf_none hm]; simp [ha, Binding.slotId]
    · rfl
  refine ⟨fun n => ?_, fun n => by rw [uw]; exact unbound n, fun n => by rw [uw]; exact draining n, fun k n h => ?_⟩
  · rw [uw, count n]; simp only [boundAmong, us]
  · rw [us] at h
    have hk : k ≠ m := fun e => by rw [e, slotOf_eq, accessOf_none hm] at h; cases h
    rw [uw, ← device k n h, deviceOf_eq, deviceOf_eq, uk, if_neg hk]

/-- A claim that binds to a window of the view raises the count of its slot (R12, R32). -/
theorem carries_raiseBound {s : State} (hs : BoundLaw s) {m : Master} {a : Access} {n : SlotId}
    (hm : s.claim m = none) (hb : a.binding.slotId = some n) (hd : a.device = (s.slot n).device)
    (hv : (s.slot n).inView = true) : Carries m a (raiseBound n s) := by
  obtain ⟨count, unbound, draining, device⟩ := hs
  unfold Carries
  generalize hu : (raiseBound n s).setClaim m _ = u
  have uk : ∀ k, u.accessOf k = if k = m then some a else s.accessOf k := fun k => by
    rw [← hu, accessOf_setClaim]; rfl
  have uw : ∀ j, u.slot j = if j = n then { s.slot n with bound := (s.slot n).bound + 1 } else s.slot j := fun j => by
    rw [← hu, setClaim_slot, raiseBound_slot]
  have udev : ∀ j, (u.slot j).device = (s.slot j).device := fun j => by
    rw [uw]; split
    · next e => rw [e]
    · rfl
  have um : u.slotOf m = some n := by rw [slotOf_eq, uk, if_pos rfl]; exact hb
  have us : ∀ k, k ≠ m → u.slotOf k = s.slotOf k := fun k hk => by rw [slotOf_eq, slotOf_eq, uk, if_neg hk]
  have sm : s.slotOf m = none := by rw [slotOf_eq, accessOf_none hm]; rfl
  have total : ∀ j, boundAmong u allMasters j = (s.slot j).bound + if j = n then 1 else 0 := fun j => by
    have := boundAmong_change us j
    rw [sm, um, ← count j] at this
    simpa [eq_comm] using this
  rw [inView_iff] at hv
  refine ⟨fun j => ?_, fun j h => ?_, fun j h => ?_, fun k j h => ?_⟩
  · rw [total, uw]; split
    · next e => rw [e]
    · rfl
  · rw [uw] at h ⊢
    split at h
    · rcases hv with e | e <;> simp [e] at h
    · next hj => rw [if_neg hj]; exact unbound j h
  · rw [uw] at h ⊢
    split at h
    · rcases hv with e | e <;> simp [e] at h
    · next hj => rw [if_neg hj]; exact draining j h
  · rw [udev]
    by_cases hk : k = m
    · rw [hk, um] at h
      cases h
      rw [hk, deviceOf_eq, uk, if_pos rfl, Option.map_some, hd]
    · rw [us k hk] at h
      rw [← device k j h, deviceOf_eq, deviceOf_eq, uk, if_neg hk]

theorem giveAnswer_boundLaw {s : State} (hs : BoundLaw s) {m : Master} (hm : s.claim m = none) (r : Reason)
    (x : DataWord) : BoundLaw (giveAnswer m r x s) := by
  refine hs.of_eq ?_ rfl
  exact claims_set_none hm

theorem decideEnds_inView {s : State} {a : Address} {w : Width} {n : SlotId} (h : decideEnds s a w = .window n) :
    (s.slot n).inView = true := by
  have found : lookup s a = some n := by
    unfold decideEnds at h
    split at h
    · cases h
    · cases h1 : lookup s a <;> cases h2 : lookup s (a + BitVec.ofNat 24 (w.bytes - 1)) <;> simp only [h1, h2] at h
      · cases hp : s.missPolicy <;> simp [hp] at h
      · cases h
      · cases h
      · split at h <;> cases h
        rfl
  exact ((mem_candidates s a n).mp (lookup_some found).1).1

theorem decideClaim_boundLaw {s : State} (hs : BoundLaw s) {m : Master} (hm : s.claim m = none) (a : Address)
    (dir : Direction) (w : Width) (x : DataWord) : BoundLaw (decideClaim m a dir w x s) := by
  unfold decideClaim; split
  · exact giveAnswer_boundLaw hs hm _ _
  · exact giveAnswer_boundLaw hs hm _ _
  · exact (carries_fallback hs hm rfl).residencyStep
  · next n h =>
    have hc : Carries m (windowAccess s n a dir w x) (raiseBound n s) :=
      carries_raiseBound hs hm rfl rfl (decideEnds_inView h)
    simp only; split
    · exact hc.answered _ _
    · split
      · exact hc.placed (by rw [enterIntercept_accessOf, if_pos rfl])
          (fun k hk => by rw [enterIntercept_accessOf, if_neg hk]) fun _ => rfl
      · exact hc.residencyStep

theorem takeClaim_boundLaw {s : State} (hs : BoundLaw s) {m : Master} (hm : s.claim m = none) (a : Address)
    (dir : Direction) (w : Width) (x : DataWord) : BoundLaw (takeClaim m a dir w x s) := by
  have marked : BoundLaw (s.setMarker m false) := hs.of_eq rfl rfl
  unfold takeClaim; simp only; split
  · exact giveAnswer_boundLaw marked hm _ _
  · exact decideClaim_boundLaw marked hm _ _ _ _

theorem answerAll_boundLaw (ms : List Master) (r : Reason) {s : State} (hs : BoundLaw s) :
    BoundLaw (answerAll ms r s) := by
  induction ms generalizing s with
  | nil => exact hs
  | cons m ms ih =>
    rw [answerAll_cons]
    apply ih
    unfold answerMaster; split
    · next h => exact answered_boundLaw hs h _ _
    · exact hs

theorem enterOn_boundLaw {s : State} (hs : BoundLaw s) (d : Device) : BoundLaw (enterOn d s) := by
  refine hs.of_claims (fun m => ?_) fun n => enterOn_slot d s n
  rw [State.accessOf, State.accessOf, enterOn_claim]
  split
  · cases s.claim m <;> rfl
  · rfl

theorem enterFault_boundLaw {s : State} (hs : BoundLaw s) (d : Device) (cause : FaultCause) (ms : List Master) :
    BoundLaw (enterFault d cause ms s) := by
  have faulted : ∀ t r, BoundLaw t → BoundLaw (raise .fault (t.setDevice d r)) := fun t r ht => ht.of_eq rfl rfl
  exact faulted _ _ (answerAll_boundLaw ms .deviceFault hs)

theorem complete_boundLaw {s : State} (hs : BoundLaw s) {m : Master} {c : Claim} (hm : s.claim m = some c)
    (dd : DataWord) : BoundLaw (complete m c.access dd s) := by
  have reloaded : ∀ d t, BoundLaw t → BoundLaw (reloadIdle d t) := fun d t ht => by
    rw [reloadIdle_eq]; exact ht.of_eq rfl rfl
  have parked : ∀ d t, BoundLaw t → BoundLaw (endPark d t) := fun d t ht => by
    rw [endPark_eq]; exact ht.of_eq rfl rfl
  exact parked _ _ (reloaded _ _ (answered_boundLaw hs hm _ _))

theorem endWake_boundLaw {s : State} (hs : BoundLaw s) (d : Device) (level : Bool) : BoundLaw (endWake d level s) := by
  have sampled : BoundLaw (samplePgd d level s) := hs.of_eq rfl rfl
  unfold endWake; simp only; split
  · exact enterOn_boundLaw sampled d
  · exact enterFault_boundLaw sampled d _ _

theorem applyVerdict_boundLaw {s : State} (hs : BoundLaw s) (v : Verdict) {m : Master} {c : Claim} (x : DataWord)
    (hm : s.claim m = some c) : BoundLaw (applyVerdict v m c x s) := by
  cases v with
  | pass =>
    have left : BoundLaw { s with interceptList := s.interceptList.filter fun x => decide (x ≠ m) } :=
      hs.of_eq rfl rfl
    exact (carries_of_claim left hm).residencyStep
  | refuse => exact answered_boundLaw hs hm _ _
  | supply =>
    have kept : Carries m c.access (s.setClaim m (some { c with verdictData := some x })) := by
      refine BoundLaw.of_claims (carries_of_claim hs hm) (fun k => ?_) fun _ => rfl
      rw [accessOf_setClaim, accessOf_setClaim, accessOf_setClaim]
      split <;> rfl
    exact kept.answered _ _

/-! ## Windows -/

theorem opened_boundLaw {s : State} (hs : BoundLaw s) {q : OpenRequest} (h : openResult s q = .ok) :
    BoundLaw (opened q s) := by
  have hz := hs.2.1 q.slot (Or.inl (openResult_ok h).1)
  refine hs.of_slots (fun _ => rfl) (fun n => ?_) (fun n => ?_) (fun n hn => ?_) fun n hn => ?_ <;>
    rw [opened_slot] at *
  · split
    · next e => rw [e]; rfl
    · rfl
  · split
    · next e => rw [e]; exact Or.inr hz
    · exact Or.inl rfl
  · split at hn
    · next e => rw [e]; exact hz
    · exact hs.2.1 n hn
  · split at hn
    · simp only [OpenRequest.fill] at hn
      split at hn <;> cases hn
    · exact hs.2.2.1 n hn

theorem retireTaken_boundLaw {s : State} (hs : BoundLaw s) {n : SlotId} (staged : Bool)
    (he : (s.slot n).editable = true) : BoundLaw (retireTaken n staged s) := by
  have hc : (retireTaken n staged s).claims = s.claims := by
    unfold retireTaken; split
    · rfl
    · split
      · rfl
      · split <;> rfl
  refine hs.of_slots (accessOf_of_claims hc) (fun k => ?_) (fun k => ?_) (fun k hk => ?_) fun k hk => ?_ <;>
    obtain ⟨x, hx, hcase⟩ := retireTaken_slot n staged s k
  · rw [hx]
  · rw [hx]; exact Or.inl rfl
  · rw [hx] at hk
    rcases hcase with rfl | ⟨rfl, ⟨rfl, h | h⟩ | ⟨_, rfl | ⟨rfl, _⟩⟩⟩
    · exact hs.2.1 k hk
    · exact hs.2.1 k (Or.inr h)
    · exact h
    · simp at hk
    · simp at hk
  · rw [hx] at hk
    rcases hcase with rfl | ⟨rfl, ⟨rfl, _⟩ | ⟨_, rfl | ⟨rfl, h⟩⟩⟩
    · exact hs.2.2.1 k hk
    · cases hk
    · cases hk
    · exact Nat.one_le_iff_ne_zero.mpr h

theorem discardAll_boundLaw {s : State} (hs : BoundLaw s) : BoundLaw (discardAll s) := by
  refine hs.of_slots (accessOf_of_claims (by rw [discardAll])) (fun n => ?_) (fun n => ?_) (fun n hn => ?_)
    fun n hn => ?_ <;> rw [discardAll_slot] at *
  · rw [discard_window]
  · rw [discard_window]; exact Or.inl rfl
  · have staged : (s.slot n).state = .free ∨ (s.slot n).state = .staged := by
      unfold Slot.discard at hn
      cases h : (s.slot n).state <;> simp [h] at hn ⊢
    exact hs.2.1 n staged
  · have draining : (s.slot n).state = .draining := by
      unfold Slot.discard at hn
      cases h : (s.slot n).state <;> simp [h] at hn ⊢
    exact hs.2.2.1 n draining

theorem applyPublish_boundLaw {s : State} (hs : BoundLaw s) : BoundLaw (applyPublish s) := by
  refine hs.of_slots (accessOf_of_claims (by rw [applyPublish])) (fun n => ?_) (fun n => ?_) (fun n hn => ?_)
    fun n hn => ?_ <;> rw [applyPublish_slot] at *
  · rw [publish_window]
  · rw [publish_window]; exact Or.inl rfl
  · unfold Slot.publish at hn
    cases h : (s.slot n).state <;> simp [h] at hn
    · exact hs.2.1 n (Or.inl h)
    · rcases hn with h0 | hn
      · exact h0
      · split at hn <;> cases hn
  · unfold Slot.publish at hn
    cases h : (s.slot n).state <;> simp [h] at hn
    · exact Nat.one_le_iff_ne_zero.mpr hn
    · exact hs.2.2.1 n h

theorem reply_boundLaw {s : State} (hs : BoundLaw s) (bs : List Byte) : BoundLaw (reply bs s) := hs.of_eq rfl rfl

/-- A slot rewritten with its bound count, its device and its state. -/
theorem setSlot_boundLaw {s : State} (hs : BoundLaw s) {n : SlotId} {w : Slot} (hb : w.bound = (s.slot n).bound)
    (hd : w.device = (s.slot n).device) (hw : w.state = (s.slot n).state) : BoundLaw (s.setSlot n w) := by
  have same : ∀ k, ((s.setSlot n w).slot k).bound = (s.slot k).bound ∧
      ((s.setSlot n w).slot k).device = (s.slot k).device ∧ ((s.setSlot n w).slot k).state = (s.slot k).state := by
    intro k
    rw [slot_setSlot]; split
    · next e => rw [e]; exact ⟨hb, hd, hw⟩
    · exact ⟨rfl, rfl, rfl⟩
  exact hs.of_slots (fun _ => rfl) (fun k => (same k).1) (fun k => Or.inl (same k).2.1)
    (fun k h => hs.2.1 k (by rwa [(same k).2.2] at h)) fun k h => hs.2.2.1 k (by rwa [(same k).2.2] at h)

theorem writeMissPolicy_claims (p : MissPolicy) (d : Device) (w : Fin 16) (s : State) :
    (writeMissPolicy p d w s).claims = s.claims := by
  unfold writeMissPolicy takeFallback dropFallback
  cases p <;> cases s.missPolicy <;> rfl

theorem boundLaw_effects {s : State} (hs : BoundLaw s) : CommandEffects BoundLaw s where
  nothing := hs
  defined _ _ _ _ _ _ := hs.of_eq rfl rfl
  forgotten _ _ _ := hs.of_eq rfl rfl
  woken _ _ := hs.of_eq rfl rfl
  reentered d _ := enterOn_boundLaw hs d
  parking _ _ _ := hs.of_eq rfl rfl
  parked _ _ := hs.of_eq rfl rfl
  cleared _ _ := hs.of_eq rfl rfl
  opened _ _ h := opened_boundLaw hs h
  amended _ _ _ _ _ _ _ := setSlot_boundLaw hs rfl rfl rfl
  retired _ staged h := retireTaken_boundLaw hs staged h
  untouched _ := setSlot_boundLaw hs rfl rfl rfl
  discarded := discardAll_boundLaw hs
  verdict v m c x h := by
    unfold caughtClaim at h
    split at h
    · exact applyVerdict_boundLaw hs v x h
    · cases h
  policy p d w _ := hs.of_claims (accessOf_of_claims (writeMissPolicy_claims p d w s)) (writeMissPolicy_slot p d w s)
  limits _ _ := hs.of_eq rfl rfl
  mask _ := hs.of_eq rfl rfl
  flags _ := hs.of_eq rfl rfl

theorem cmdSoftReset_boundLaw {s : State} (hs : BoundLaw s) : BoundLaw (cmdSoftReset s) := by
  have h := answerAll_boundLaw (inFlight s) .reset hs
  unfold cmdSoftReset answerAllReset
  unfold inFlight at h
  generalize answerAll _ .reset s = t at h
  exact h.of_eq rfl rfl

theorem boundLaw_decoder {s : State} (hs : BoundLaw s) : DecoderKeeps BoundLaw s :=
  (boundLaw_effects hs).decoder (fun bs _ ht => reply_boundLaw ht bs) (hs.of_eq rfl rfl) (cmdSoftReset_boundLaw hs)

/-! ## The other events -/

theorem grantHead_boundLaw {s : State} (hs : BoundLaw s) {m : Master} {rest : List Master} {c : Claim}
    (hm : s.claim m = some c) : BoundLaw (grantHead m rest c s) := by
  refine hs.of_claims (fun k => ?_) fun _ => rfl
  have hk : (grantHead m rest c s).claim k = if k = m then some { c with phase := .active, timer := none }
    else s.claim k := vector_set_getElem s.claims m k _
  rw [State.accessOf, hk]
  split
  · next e => rw [e, State.accessOf, hm]; rfl
  · rfl

theorem tickAll_boundLaw {s : State} (hs : BoundLaw s) : BoundLaw (tickAll s) := by
  refine hs.of_claims (fun k => ?_) fun _ => rfl
  rw [State.accessOf, tickAll_claim, State.accessOf]
  cases s.claim k <;> rfl

theorem endIdle_boundLaw {s : State} (hs : BoundLaw s) (d : Device) : BoundLaw (endIdle d s) := by
  unfold endIdle; split <;> exact hs.of_eq rfl rfl

theorem losePower_boundLaw {s : State} (hs : BoundLaw s) (d : Device) (level : Bool) :
    BoundLaw (losePower d (samplePgd d level s)) :=
  enterFault_boundLaw (hs.of_eq (t := samplePgd d level s) rfl rfl) _ _ _

theorem heldInReset_boundLaw (s : State) : BoundLaw (heldInReset s) :=
  boundLaw_empty (heldInReset_claim s) (fun n => by rw [heldInReset_slot]; rfl)
    fun n => by rw [heldInReset_slot]; simp [Slot.blank]

theorem powerOnState_boundLaw (x : Straps) (s : State) : BoundLaw (powerOnState x s) := by
  refine boundLaw_empty (powerOnState_claim x s) (fun n => ?_) fun n => ?_ <;> rw [powerOnState_slot] <;> split
  · rfl
  · rfl
  · simp [bootSlot]
  · simp [Slot.blank]

theorem busReset_boundLaw (s : State) : BoundLaw (busReset s) := by
  refine boundLaw_empty (busReset_claim s) (fun n => by rw [busReset_slot]; rfl) fun n => ?_
  rw [busReset_slot, Slot.busReset]
  by_cases h : (s.slot n).state = .draining <;> simp [h]

theorem completePublish_boundLaw {s : State} (hs : BoundLaw s) : BoundLaw (completePublish s) := by
  have done : ∀ bs t, BoundLaw t → BoundLaw (raise .done (reply bs t)) := fun bs t ht => ht.of_eq rfl rfl
  unfold completePublish; split
  · exact done _ _ hs
  · exact done _ _ (applyPublish_boundLaw hs)

/-- A soft reset completes without claims in flight (R49), so counts of 0 are right (R25). -/
theorem completeSoftReset_boundLaw {s : State} (hc : ∀ m, s.claim m = none) : BoundLaw (completeSoftReset s) := by
  refine boundLaw_empty (fun m => ?_) (fun n => ?_) fun n => ?_
  · have := (completeSoftReset_stays s m).stays
    rw [hc m] at this
    simpa using this
  · rw [completeSoftReset_slot]; split <;> rfl
  · rw [completeSoftReset_slot]; split <;> simp [bootSlot, Slot.softReset]

/-! ## The law -/

theorem boundLaw_keeps : Keeps fun s => BoundLaw s ∧ ClaimsCovered s where
  same s t := fun ⟨hb, hc⟩ h => ⟨hb.of_eq (by rw [h.2]) (by rw [h.2]), claimsCovered_keeps.same s t hc h⟩
  arrival m a dir w x s := fun ⟨hb, hc⟩ hm =>
    ⟨takeClaim_boundLaw hb hm a dir w x, claimsCovered_keeps.arrival m a dir w x s hc hm⟩
  grant m rest c s := fun ⟨hb, hc⟩ hcy hr hm =>
    ⟨grantHead_boundLaw hb hm, claimsCovered_keeps.grant m rest c s hc hcy hr hm⟩
  completion cy c dd s := fun ⟨hb, hc⟩ hcy hm =>
    ⟨complete_boundLaw hb hm dd, claimsCovered_keeps.completion cy c dd s hc hcy hm⟩
  tick s := fun ⟨hb, hc⟩ => ⟨tickAll_boundLaw hb, claimsCovered_keeps.tick s hc⟩
  wake d level s := fun ⟨hb, hc⟩ h => ⟨endWake_boundLaw hb d level, claimsCovered_keeps.wake d level s hc h⟩
  idle d s := fun ⟨hb, hc⟩ h ht => ⟨endIdle_boundLaw hb d, claimsCovered_keeps.idle d s hc h ht⟩
  hold m c s := fun ⟨hb, hc⟩ hm h => ⟨answered_boundLaw hb hm _ _, claimsCovered_keeps.hold m c s hc hm h⟩
  intercept m c s := fun ⟨hb, hc⟩ hm h =>
    ⟨(answered_boundLaw hb hm _ _).of_eq rfl rfl, claimsCovered_keeps.intercept m c s hc hm h⟩
  departure d level s := fun ⟨hb, hc⟩ h hl =>
    ⟨losePower_boundLaw hb d level, claimsCovered_keeps.departure d level s hc h hl⟩
  low s := fun ⟨_, hc⟩ => ⟨heldInReset_boundLaw s, claimsCovered_keeps.low s hc⟩
  high x s := fun ⟨_, hc⟩ => ⟨powerOnState_boundLaw x s, claimsCovered_keeps.high x s hc⟩
  bus s := fun ⟨_, hc⟩ => ⟨busReset_boundLaw s, claimsCovered_keeps.bus s hc⟩
  record code params s := fun ⟨hb, hc⟩ h =>
    ⟨runRecord_of (boundLaw_decoder hb) code params, claimsCovered_keeps.record code params s hc h⟩
  unknown s := fun ⟨hb, hc⟩ h => ⟨reply_boundLaw hb _, claimsCovered_keeps.unknown s hc h⟩
  published s x := fun ⟨hb, hc⟩ h => ⟨completePublish_boundLaw hb, claimsCovered_keeps.published s x hc h⟩
  rebuilt s x := fun ⟨_, hc⟩ h =>
    ⟨completeSoftReset_boundLaw (hc.2 (by unfold softResetting; rw [h])), claimsCovered_keeps.rebuilt s x hc h⟩

/-- Settles O56: of the law of places, the bound counts need only that every claim has a place and that a soft reset
runs without claims. -/
theorem stepKeepsTheBoundCounts : Obligations.StepKeepsTheBoundCounts :=
  fun _ _ hp hb h => (step_keeps boundLaw_keeps h ⟨hb, hp.covered⟩).1

end Sys2Proof.Machine
end

section
/-! PROOF. The resets (O5, O6, O8), the state after reset (O51) and the lookup (O11). -/

namespace Sys2Proof.Machine

/-! ## The end of power-on reset (R130, R131) -/

/-- BSZ selects the size and the base of the boot window, as Table 7-1 lists them. -/
theorem bootSize_table (bsz : BitVec 2) : (bsz, 16 + bsz.toNat, BitVec.ofNat 24 (0x1000000 - 2 ^ (16 + bsz.toNat))) ∈
    [(0#2, 16, 0xFF0000#24), (1#2, 17, 0xFE0000#24), (2#2, 18, 0xFC0000#24), (3#2, 19, 0xF80000#24)] := by
  revert bsz; decide

theorem bootWaits_table (x : Straps) :
    (x.bwt, bootWaits x) ∈ [(0#2, (0 : Fin 16)), (1#2, 4), (2#2, 8), (3#2, 15)] := by
  unfold bootWaits
  generalize x.bwt = w
  revert w; decide

theorem bootSense_table (x : Straps) :
    (x.bpg, bootSense x) ∈ [(0#2, Sense.ignore), (1#2, .high), (2#2, .low), (3#2, .high)] := by
  unfold bootSense
  generalize x.bpg = g
  revert g; decide

theorem exec_endOfPowerOnReset {s : State} (bsz bwt bpg : BitVec 2) (h : s.inReset = true) :
    exec (.endOfPowerOnReset bsz bwt bpg) s =
      .next (powerOnState { bsz := bsz, bwt := bwt, bpg := bpg } s.quiet) := by
  simp [exec, execEndOfPowerOnReset, h]

theorem powerOnState_marker (x : Straps) (s : State) (m : Master) : (powerOnState x s).marker m = false := by
  simp [marker_def, powerOnState]

/-- Settles O5: the strap tables are Table 7-1, and every other field is the one that `powerOnState` writes. -/
theorem endOfPowerOnResetBuildsEveryRecord : Obligations.EndOfPowerOnResetBuildsEveryRecord := by
  intro s bsz bwt bpg h
  have slot := powerOnState_slot { bsz := bsz, bwt := bwt, bpg := bpg } s.quiet
  have device := powerOnState_device { bsz := bsz, bwt := bwt, bpg := bpg } s.quiet
  refine ⟨_, exec_endOfPowerOnReset bsz bwt bpg h, rfl, rfl, ?_, fun n hn => ?_, ?_, fun d hd => ?_, rfl, rfl, rfl,
    powerOnState_claim _ _, rfl, rfl, rfl, rfl, rfl, rfl, powerOnState_marker _ _, rfl, rfl, rfl, rfl, rfl, rfl, rfl,
    rfl, rfl, rfl, rfl, rfl⟩
  · exact ⟨_, _, _, bootSize_table bsz, bootWaits_table { bsz := bsz, bwt := bwt, bpg := bpg },
      (slot 0).trans (if_pos rfl)⟩
  · exact (slot n).trans (if_neg hn)
  · exact ⟨_, bootSense_table { bsz := bsz, bwt := bwt, bpg := bpg }, (device 0).trans (if_pos rfl)⟩
  · exact (device d).trans (if_neg hd)

/-! ## Bus reset (R26, R50, R78) -/

theorem busReset_frame (s : State) : busReset s =
    { s with claims := (busReset s).claims, interceptList := [], holdList := [], readyList := [], cycle := none
             markers := (busReset s).markers, slots := (busReset s).slots, devices := (busReset s).devices } := by
  rw [busReset]

/-- Under the law of references a bus reset leaves each device its references and takes a PARKING one to OFF. -/
theorem busReset_device_lawful {s : State} (h : ReferenceLaw s) (d : Device) : (busReset s).device d =
    { s.device d with
      heldCount := 0, refCount := references (busReset s) d
      residency := if (s.device d).residency = .parking then .off else (s.device d).residency
      pen := (s.device d).pen && decide ((s.device d).residency ≠ .parking) } := by
  rw [← busReset_referenceLaw h d, busReset_device]
  unfold DeviceRecord.endParkEmpty
  by_cases hp : (s.device d).residency = .parking <;> simp [hp]

/-- Settles O6: field by field of `busReset`. -/
theorem busResetDropsEveryClaim : Obligations.BusResetDropsEveryClaim := by
  intro s h hr
  have hq : ReferenceLaw s.quiet := hr
  exact ⟨busReset s.quiet, event_running busReset h, busReset_frame s.quiet,
    fun m => ⟨busReset_claim _ m, busReset_marker _ m⟩, busReset_slot s.quiet, busReset_device_lawful hq⟩

/-! ## The completion of a soft reset (R25, R77, R135) -/

theorem completeSoftReset_frame (s : State) : completeSoftReset s =
    { s with
      slots := (completeSoftReset s).slots, devices := (completeSoftReset s).devices, missPolicy := .abort
      fallbackDevice := 0, fallbackWaits := 0, holdLimit := 50, interceptLimit := 20
      flags := { intercept := false, fault := false, timeout := false, done := true, port := false }
      port := { s.port with condition := .replying [0x00#8] } } := by
  rw [completeSoftReset]; rfl

theorem softResetZero_on {r : DeviceRecord} (x : Straps) (h : r.residency = .on) :
    r.softResetZero x = { r with refCount := 1 } := by
  unfold DeviceRecord.softResetZero; rw [h]

theorem softResetZero_not_on {r : DeviceRecord} (x : Straps) (h : r.residency ≠ .on) :
    r.softResetZero x = bootDevice x := by
  unfold DeviceRecord.softResetZero
  cases hr : r.residency with
  | on => exact absurd hr h
  | _ => rfl

theorem exec_softResetCompletion {s : State} {left : Nat} (h : s.inReset = false)
    (hp : s.port.condition = .executing .softReset { left := left, due := true }) :
    exec .softResetCompletion s = .next (completeSoftReset s.quiet) := by
  simp [exec, execSoftResetCompletion, event_running _ h, hp]

/-- Settles O8: field by field of `completeSoftReset`. -/
theorem softResetCompletionRebuildsTheStartUpObjects : Obligations.SoftResetCompletionRebuildsTheStartUpObjects := by
  intro s left h hp
  have slot := completeSoftReset_slot s.quiet
  have device := completeSoftReset_device s.quiet
  refine ⟨_, exec_softResetCompletion h hp, completeSoftReset_frame s.quiet, (slot 0).trans (if_pos rfl),
    fun n hn => (slot n).trans (if_neg hn), fun hon => ?_, fun hon => ?_, fun d hd => (device d).trans (if_neg hd)⟩
  · rw [device, if_pos rfl]; exact softResetZero_on _ hon
  · rw [device, if_pos rfl]; exact softResetZero_not_on _ hon

/-! ## The lookup (R20, R22) -/

/-- Two candidates for one address share it, so under the law of equal precedence they differ in precedence. -/
theorem candidates_precedence {s : State} {a : Address} (hs : EqualPrecedenceLaw s) {n m : SlotId}
    (hn : n ∈ candidates s a) (hm : m ∈ candidates s a) (hne : m ≠ n) :
    (s.slot m).precedence ≠ (s.slot n).precedence := by
  rw [mem_candidates, contains_iff] at hn hm
  obtain ⟨vn, ln, un⟩ := hn
  obtain ⟨vm, lm, um⟩ := hm
  intro he
  have hc := hs m n hne vm vn
  have : (s.slot m).conflicts (s.slot n) = true :=
    (conflicts_iff _ _).mpr ⟨he, (shares_iff _ _).mpr ⟨lm.trans un, ln.trans um⟩⟩
  rw [hc] at this
  cases this

theorem lookup_isSome_of_candidate {s : State} {a : Address} {n : SlotId} (h : n ∈ candidates s a) :
    ∃ k, lookup s a = some k := by
  rw [← Option.ne_none_iff_exists']
  intro hl
  rw [lookup_none_iff] at hl
  rw [hl] at h
  cases h

theorem mem_candidates_iff (s : State) (a : Address) (n : SlotId) : n ∈ candidates s a ↔
    ((s.slot n).state = .live ∨ (s.slot n).state = .marked) ∧
      (s.slot n).base.toNat ≤ a.toNat ∧ a.toNat ≤ (s.slot n).base.toNat + 2 ^ (s.slot n).size - 1 := by
  rw [mem_candidates, inView_iff, contains_iff]

/-- Under the law of equal precedence the winner is the candidate above every other. -/
theorem lookup_some_iff {s : State} (hs : EqualPrecedenceLaw s) (a : Address) (n : SlotId) : lookup s a = some n ↔
    n ∈ candidates s a ∧ ∀ m, m ≠ n → m ∈ candidates s a → (s.slot m).precedence < (s.slot n).precedence := by
  constructor
  · intro h
    obtain ⟨hn, top⟩ := lookup_some h
    exact ⟨hn, fun m hne hm => lt_of_le_of_ne (top m hm) (candidates_precedence hs hn hm hne)⟩
  · rintro ⟨hn, above⟩
    obtain ⟨k, hk⟩ := lookup_isSome_of_candidate hn
    obtain ⟨hkc, top⟩ := lookup_some hk
    by_contra h
    have hne : k ≠ n := fun e => h (e ▸ hk)
    exact absurd (top n hn) (not_le.mpr (above k hne hkc))

/-- Settles O11: a candidate is a member of `candidates`. -/
theorem lookupFindsTheHighestCandidate : Obligations.LookupFindsTheHighestCandidate := by
  intro s a
  simp only [← mem_candidates_iff]
  exact ⟨by rw [lookup_none_iff, List.eq_nil_iff_forall_not_mem], fun hs n => lookup_some_iff hs a n⟩

/-! ## The state after reset -/

/-- The state after reset is one that the end of power-on reset builds (R131). -/
theorem reset_of {P : State → Prop} (h : ∀ x s, P (powerOnState x s)) : P State.reset :=
  h { bsz := 0#2, bwt := 0#2, bpg := 0#2 } State.reset

theorem powerOnState_placesLaw (x : Straps) (s : State) : PlacesLaw (powerOnState x s) := by
  have phase : ∀ m, (powerOnState x s).phaseOf m = none := fun m => by rw [State.phaseOf, powerOnState_claim]; rfl
  have nowhere : ∀ p m, m ∈ ([] : List Master) ↔ (powerOnState x s).phaseOf m = some p := fun p m => by
    simp [phase]
  refine ⟨List.nodup_nil, List.nodup_nil, List.nodup_nil, nowhere _, nowhere _, nowhere _, fun m => ?_,
    fun cy h => (by cases h), fun _ => powerOnState_claim x s⟩
  rw [phase]
  exact ⟨fun h => (by cases h), fun h => (by cases h)⟩

theorem powerOnState_claimsShaped (x : Straps) (s : State) : ClaimsShaped (powerOnState x s) :=
  ⟨fun m c h => by simp [powerOnState_claim] at h, by simp [powerOnState], by simp [powerOnState]⟩

theorem bootDevice_lawful (x : Straps) : (bootDevice x).Lawful := by simp [bootDevice, DeviceRecord.Lawful]

theorem blank_lawful : DeviceRecord.blank.Lawful := by simp [DeviceRecord.blank, DeviceRecord.Lawful]

theorem powerOnState_devicesLawful (x : Straps) (s : State) : DevicesLawful (powerOnState x s) := fun d => by
  rw [powerOnState_device]; split
  · exact bootDevice_lawful x
  · exact blank_lawful

theorem powerOnState_conformity (x : Straps) (s : State) : ConformityLaw (powerOnState x s) := fun d h => by
  rw [powerOnState_device] at h
  split at h <;> simp [bootDevice, DeviceRecord.blank] at h

theorem powerOnState_heldCount (x : Straps) (s : State) : HeldCountLaw (powerOnState x s) := fun d => by
  have none : deviceAmong (powerOnState x s) (powerOnState x s).holdList d = 0 := rfl
  rw [powerOnState_device, none]; split <;> rfl

theorem powerOnState_residency (x : Straps) (s : State) : ResidencyLaw (powerOnState x s) := fun m c h => by
  simp [powerOnState_claim] at h

/-- Settles O51: whatever the straps, the state at the end of power-on reset obeys every law, for it has one window, one
device that is not ABSENT and no claim. -/
theorem resetObeysEveryLaw : Obligations.ResetObeysEveryLaw :=
  ⟨reset_of powerOnState_slotsShaped, reset_of powerOnState_equalPrecedence, reset_of powerOnState_referenceLaw,
    reset_of powerOnState_named, reset_of powerOnState_placesLaw,
    reset_of (P := CycleNumberLaw) fun _ _ _ h => (by cases h), reset_of powerOnState_boundLaw,
    reset_of powerOnState_claimsShaped, reset_of powerOnState_devicesLawful, reset_of powerOnState_conformity,
    reset_of powerOnState_heldCount, reset_of powerOnState_residency, reset_of (P := PortLaw) fun _ _ => trivial⟩

end Sys2Proof.Machine
end

section
/-! PROOF. A completion (O16), the window commands (O36, O37, O40) and SET MISS POLICY (O48). -/

namespace Sys2Proof.Machine

/-! ## Completion (R43) -/

/-- The master whose cycle is in progress has its claim ACTIVE, so it stands in no list (R29, R41). -/
theorem PlacesLaw.active_in_no_list {s : State} (h : PlacesLaw s) {cy : DeviceCycle} (hcy : s.cycle = some cy) :
    cy.master ∉ s.interceptList ∧ cy.master ∉ s.holdList ∧ cy.master ∉ s.readyList := by
  obtain ⟨_, _, _, hI, hH, hR, hA, _⟩ := h
  have active : s.phaseOf cy.master = some .active := (hA cy.master).mpr (by rw [hcy]; rfl)
  rw [hI, hH, hR, active]
  simp

/-- The answer of the claim whose cycle is in progress frees the bus and leaves the lists alone. -/
theorem answerClaim_active {s : State} (h : PlacesLaw s) {cy : DeviceCycle} (hcy : s.cycle = some cy) (a : Access)
    (r : Reason) (x : DataWord) : answerClaim cy.master a r x s = { s with
      answers := s.answers ++ [{ master := cy.master, reason := r, data := x }]
      claims := s.claims.set cy.master none
      cycle := none
      slots := (answerClaim cy.master a r x s).slots
      devices := (answerClaim cy.master a r x s).devices } := by
  obtain ⟨hi, hh, hr⟩ := h.active_in_no_list hcy
  have frame := answerClaim_frame cy.master a r x s
  have freed : (s.cycle.filter fun c => decide (c.master ≠ cy.master)) = none := by simp [hcy]
  rw [filter_ne_of_notMem hi, filter_ne_of_notMem hh, filter_ne_of_notMem hr, freed] at frame
  exact frame

theorem reloadIdle_device (d : Device) (s : State) (e : Device) : (reloadIdle d s).device e =
    { s.device e with
      idleTimer := if e = d ∧ (s.device e).residency = .on then Timer.load (s.device e).idleLimit
                   else (s.device e).idleTimer } := by
  by_cases hon : (s.device d).residency = .on
  · have h : reloadIdle d s = s.setDevice d { s.device d with idleTimer := Timer.load (s.device d).idleLimit } := by
      unfold reloadIdle; rw [hon]
    rw [h, device_setDevice]
    by_cases hd : e = d
    · rw [if_pos hd, hd, if_pos ⟨rfl, hon⟩]
    · rw [if_neg hd, if_neg fun e => hd e.1]
  · have h : reloadIdle d s = s := by
      unfold reloadIdle; split
      · next e => exact absurd e hon
      all_goals rfl
    rw [h, if_neg]
    rintro ⟨rfl, e⟩
    exact hon e

/-- The completion of a cycle whose device is not PARKING: no park ends. -/
theorem complete_not_parking {s : State} (m : Master) {a : Access} (dd : DataWord)
    (h : (s.device a.device).residency ≠ .parking) : complete m a dd s =
      reloadIdle a.device (answerClaim m a .done (answerData a.direction a.width dd) s) := by
  refine endPark_other ?_
  rw [reloadIdle_device, answerClaim_device]
  exact h

theorem exec_completion {s : State} {cy : DeviceCycle} {c : Claim} (dd : DataWord) (h : s.inReset = false)
    (hcy : s.cycle = some cy) (hm : s.claim cy.master = some c) :
    exec (.completion { cycle := cy.number, dd := dd }) s = .next (complete cy.master c.access dd s.quiet) := by
  have answered : answeredCycle s.quiet cy.number = some cy := (answeredCycle_iff ..).mpr ⟨hcy, rfl⟩
  simp [exec, execCompletion, event_running _ h, answered, hm]

/-- Settles O16: the completion is the answer of the ACTIVE claim and the reload of the idle timer. -/
theorem completionAnswersDone : Obligations.CompletionAnswersDone := by
  intro s dd cy c h hp hcy hm hpark
  have places : PlacesLaw s.quiet := hp
  have hold : cy.master ∉ s.quiet.holdList := (places.active_in_no_list hcy).2.1
  have eq := complete_not_parking (s := s.quiet) cy.master dd hpark
  refine ⟨_, answerData c.access.direction c.access.width dd, exec_completion dd h hcy hm, ?_,
    fun i hi => answerData_lane _ _ _ i hi, fun n => ?_, fun d => ?_⟩ <;> rw [eq]
  · rw [reloadIdle_eq, answerClaim_active places hcy]
    rfl
  · rw [reloadIdle_eq]
    exact answerClaim_slot ..
  · rw [reloadIdle_device, answerClaim_nowhere_device _ _ _ hold]
    rfl

/-! ## Opening a window (R114, R115, R165) -/

theorem opened_eq (q : OpenRequest) (s : State) : opened q s =
    { s with slots := s.slots.set q.slot (q.fill (s.slot q.slot))
             devices := s.devices.set q.device
               { s.device q.device with refCount := (s.device q.device).refCount + 1 } } := rfl

/-- An open passes its checks on a FREE slot, a device that is not ABSENT and, unless staged, a view without a
conflict (R165, checks 2 to 4). -/
theorem openResult_passes {s : State} {q : OpenRequest} (hf : (s.slot q.slot).state = .free)
    (ha : (s.device q.device).residency ≠ .absent)
    (hv : q.staged = true ∨ conflictsWithView s none (q.fill (s.slot q.slot)) = false) :
    openResult s q = .ok := by
  unfold openResult
  rw [if_neg (not_not.mpr hf), if_neg ha, if_neg]
  rintro ⟨hs, hc⟩
  rcases hv with h | h
  · rw [hs] at h; cases h
  · rw [hc] at h; cases h

theorem conflictsWithView_none_false_iff {s : State} {w : Slot} :
    conflictsWithView s none w = false ↔ ∀ m, (s.slot m).inView = true → w.conflicts (s.slot m) = false := by
  simp [conflictsWithView, allSlots]

/-- Settles O36: the range checks give the request as sent, its further checks pass, and the request fills the slot. -/
theorem openFillsAFreeSlot : Obligations.OpenFillsAFreeSlot := by
  intro s b base k p dv w g o reloc n pr d wt h hb hn h8 h20 hpr hd hwt ho8 ho3 hbase hreloc hfree habs s₀ window hview
  have slot : ∀ m, s₀.slot m = s.slot m := fun m => takeCommandByte_slot _ m
  have device : ∀ e, s₀.device e = s.device e := fun e => takeCommandByte_device _ e
  rw [exec_openCommand _ _ _ _ _ _ _ _ _ h hb, cmdOpen,
    readOpen_some hn h8 h20 hpr hd hwt ho8 ho3 hbase hreloc]
  generalize hq : OpenRequest.mk n base k.toNat pr d wt g _ _ reloc = q
  have hslot : q.slot = n := by rw [← hq]
  have hdev : q.device = d := by rw [← hq]
  have fill : q.fill (s.slot n) = window := by
    rw [← hq]
    simp [OpenRequest.fill, window]
  have ok : openResult s₀ q = .ok := by
    refine openResult_passes (by rw [hslot, slot]; exact hfree) (by rw [hdev, device]; exact habs) ?_
    rw [hslot, slot, fill, conflictsWithView_none_false_iff]
    refine hview.imp (fun h4 => ?_) fun hv m => by rw [slot]; exact hv m
    rw [← hq]
    exact decide_eq_true h4
  change Host.Outcome.next (openSlot q s₀) = _
  clear hq
  subst hslot hdev
  rw [openSlot_taken ok, opened_eq, slot, device, fill]
  have hslots : s₀.slots = s.slots := takeCommandByte_slots _
  have hdevices : s₀.devices = s.devices := takeCommandByte_devices _
  rw [hslots, hdevices]
  rfl

theorem cmdOpen_badValue {b : Byte} {base : Address} {k p d w g o : Byte} {r : Option Address} {s : State}
    (h : readOpen b base k p d w g o r = none) :
    cmdOpen b base k p d w g o r s = reply [0x02#8, generationReply s b] s := by
  rw [cmdOpen, h]; rfl

theorem generationReply_some {b : Byte} {n : SlotId} (s : State) (h : b.toNat = n.val) :
    generationReply s b = BitVec.ofNat 8 (s.slot n).generation.val := by
  rw [generationReply, readFin_some h]; rfl

theorem generationReply_none {b : Byte} (s : State) (h : 64 ≤ b.toNat) : generationReply s b = 0xFF#8 := by
  rw [generationReply, readFin_none h]

/-- The request that parameters in range make. -/
theorem readOpen_of_inRange {b : Byte} {base : Address} {k p d w g o : Byte} {r : Option Address} {n : SlotId}
    (hn : b.toNat = n.val) (h : OpenInRange b base k p d w o r) : ∃ q, readOpen b base k p d w g o r = some q ∧
      q.slot = n ∧ q.base = base ∧ q.size = k.toNat ∧ q.precedence.val = p.toNat ∧ q.device.val = d.toNat ∧
      q.staged = decide (4 ≤ o.toNat) := by
  obtain ⟨_, ⟨h8, h20⟩, hp, hd, hw, ⟨ho8, ho3⟩, hbase, hr⟩ := h
  exact ⟨_, readOpen_some (pr := ⟨p.toNat, hp⟩) (dv := ⟨d.toNat, hd⟩) (wt := ⟨w.toNat, hw⟩) hn h8 h20 rfl rfl rfl ho8
    ho3 hbase hr, rfl, rfl, rfl, rfl, rfl, rfl⟩

/-- An open that a check after the range checks refuses replies that check's code and the slot's generation. -/
theorem cmdOpen_refused {b : Byte} {base : Address} {k p d w g o : Byte} {r : Option Address} {s : State}
    {q : OpenRequest} {c : ResultCode} (hq : readOpen b base k p d w g o r = some q) (h : openResult s q = c)
    (hc : c ≠ .ok) : cmdOpen b base k p d w g o r s =
      reply [c.toByte, BitVec.ofNat 8 (s.slot q.slot).generation.val] s := by
  subst h
  rw [cmdOpen, hq]
  exact if_neg hc

theorem openResult_slotInUse {s : State} {q : OpenRequest} (h : (s.slot q.slot).state ≠ .free) :
    openResult s q = .slotInUse := if_pos h

theorem openResult_noDevice {s : State} {q : OpenRequest} (hf : (s.slot q.slot).state = .free)
    (ha : (s.device q.device).residency = .absent) : openResult s q = .noDevice := by
  rw [openResult, if_neg (not_not.mpr hf), if_pos ha]

theorem openResult_overlap {s : State} {q : OpenRequest} (hf : (s.slot q.slot).state = .free)
    (ha : (s.device q.device).residency ≠ .absent) (hs : q.staged = false) {m : SlotId}
    (hm : (s.slot m).inView = true) (hc : (q.fill (s.slot q.slot)).conflicts (s.slot m) = true) :
    openResult s q = .overlap := by
  have hv : conflictsWithView s none (q.fill (s.slot q.slot)) = true := by
    by_contra hn
    rw [Bool.not_eq_true, conflictsWithView_none_false_iff] at hn
    rw [hn m hm] at hc
    cases hc
  rw [openResult, if_neg (not_not.mpr hf), if_neg ha, if_pos ⟨hs, hv⟩]

/-- Settles O37: each refusal is the first check of `openResult` that fails, after the range checks. -/
theorem openIsRefusedInOrder : Obligations.OpenIsRefusedInOrder := by
  intro s b base k p dv w g o reloc h hb s₀ inRange refused
  have slot : ∀ m, s₀.slot m = s.slot m := fun m => takeCommandByte_slot _ m
  have device : ∀ e, s₀.device e = s.device e := fun e => takeCommandByte_device _ e
  have run : exec (openCommand b base k p dv w g o reloc) s = .next (cmdOpen b base k p dv w g o reloc s₀) :=
    exec_openCommand _ _ _ _ _ _ _ _ _ h hb
  have bad : ¬ inRange → readOpen b base k p dv w g o reloc = none := fun hr => by
    by_contra hne
    obtain ⟨q, hq⟩ := Option.ne_none_iff_exists'.mp hne
    exact hr (readOpen_inRange hq).1
  rw [run]
  refine ⟨fun hn => ?_, fun n hn => ⟨fun hr => ?_, fun hr hf => ?_, fun d hd hr hf ha => ?_,
    fun d m hd hr hf ha ho hv hp hlo hhi => ?_⟩⟩
  · rw [cmdOpen_badValue (bad fun hr => absurd hr.1 (not_lt.mpr hn)), generationReply_none _ hn]
  · rw [cmdOpen_badValue (bad hr), generationReply_some _ hn, slot]
  all_goals
    obtain ⟨q, hq, rfl, hqb, hqk, hqp, hqd, hqs⟩ := readOpen_of_inRange hn hr
    rw [← slot] at hf ⊢
  · rw [cmdOpen_refused hq (openResult_slotInUse hf) (by simp)]; rfl
  · have hdev : q.device = d := Fin.ext (hqd.trans hd)
    rw [cmdOpen_refused hq (openResult_noDevice hf (by rw [device, hdev]; exact ha)) (by simp)]; rfl
  · have hdev : q.device = d := Fin.ext (hqd.trans hd)
    have hst : q.staged = false := by rw [hqs]; exact decide_eq_false (by omega)
    rw [← slot] at hv hp hlo hhi
    have clash : (q.fill (s₀.slot q.slot)).conflicts (s₀.slot m) = true := by
      rw [conflicts_iff, shares_iff]
      refine ⟨Fin.ext (hqp.trans hp.symm), ?_, ?_⟩
      · rw [OpenRequest.fill, hqb]; exact hlo
      · simp only [OpenRequest.fill, hqb, hqk]; exact hhi
    rw [cmdOpen_refused hq (openResult_overlap hf (by rw [device, hdev]; exact ha) hst hv clash) (by simp)]; rfl

/-! ## Reading a window (R168) -/

theorem slotReply_eq (w : Slot) : slotReply w =
    [0x00#8, slotStateByte w.state, originByte w.origin, w.base.extractLsb' 0 8, w.base.extractLsb' 8 8,
      w.base.extractLsb' 16 8, BitVec.ofNat 8 w.size, BitVec.ofNat 8 w.precedence.val,
      BitVec.ofNat 8 w.device.val, BitVec.ofNat 8 w.waits.val, w.permissions, watchByte w.watch,
      if w.relocation = none then 0x00#8 else 0x01#8] ++ addressBytes (w.relocation.getD 0#24) ++
     [BitVec.ofNat 8 w.generation.val, if w.touched then 0x01#8 else 0x00#8, BitVec.ofNat 8 w.bound] := by
  cases hr : w.relocation <;>
    simp [slotReply, hr, addressBytes, countByte, generationByte, yesNoByte, ResultCode.toByte]

theorem exec_readWindow {s : State} (b x : Byte) (h : s.inReset = false) (hb : s.port.busy = false) :
    exec (.readWindow b x) s = .next (cmdReadWindow b x (takeCommandByte s.quiet)) := by
  simp only [exec, execReadWindow, event_sendWhole _ _ h hb]

theorem cmdReadWindow_badValue {b x : Byte} (s : State) (h : 64 ≤ b.toNat ∨ 2 ≤ x.toNat) :
    cmdReadWindow b x s = reply [0x02#8] s := by
  unfold cmdReadWindow; split
  · next hb hx =>
    rw [readFin_eq_some] at hb
    rw [readYesNo_eq, Option.ite_none_right_eq_some] at hx
    omega
  · rfl

theorem cmdReadWindow_read {b x : Byte} {n : SlotId} (s : State) (hn : b.toNat = n.val) (hx : x.toNat < 2) :
    cmdReadWindow b x s = readSlot n (decide (x.toNat = 1)) s := by
  rw [cmdReadWindow, readFin_some hn, readYesNo_eq, if_pos hx]

/-- The clear option rewrites the touched flag of the slot alone (R11). -/
theorem readSlot_eq (n : SlotId) (clear : Bool) (s : State) : readSlot n clear s = reply (slotReply (s.slot n))
    { s with slots := if clear = true then s.slots.set n { s.slot n with touched := false } else s.slots } := by
  cases clear <;> rfl

/-- Settles O40: the reply is the nineteen bytes of the record, and the clear option rewrites the touched flag. -/
theorem readWindowReportsTheSlot : Obligations.ReadWindowReportsTheSlot := by
  intro s b x h hb s₀
  have slots : s₀.slots = s.slots := takeCommandByte_slots _
  have slot : ∀ n, s₀.slot n = s.slot n := takeCommandByte_slot _
  refine ⟨fun hr => ?_, fun n hn hx => ?_⟩ <;> rw [exec_readWindow b x h hb]
  · rw [cmdReadWindow_badValue _ hr]
  · rw [cmdReadWindow_read _ hn hx, readSlot_eq, slotReply_eq]
    simp only [decide_eq_true_eq]
    rw [slot n, slots]

/-! ## The miss policy (R127, R173) -/

theorem exec_setMissPolicy {s : State} (bp bd bw : Byte) (h : s.inReset = false) (hb : s.port.busy = false) :
    exec (.setMissPolicy bp bd bw) s = .next (cmdSetMissPolicy bp bd bw (takeCommandByte s.quiet)) := by
  simp only [exec, execSetMissPolicy, event_sendWhole _ _ h hb]

theorem cmdSetMissPolicy_badValue {bp bd bw : Byte} (s : State)
    (h : 2 ≤ bp.toNat ∨ 16 ≤ bd.toNat ∨ 16 ≤ bw.toNat) : cmdSetMissPolicy bp bd bw s = reply [0x02#8] s := by
  unfold cmdSetMissPolicy; split
  · next hp hd hw =>
    rw [readMissPolicy_eq, Option.ite_none_right_eq_some] at hp
    rw [readFin_eq_some] at hd hw
    omega
  · rfl

/-- SET MISS POLICY with its parameters in range: NO_DEVICE, or the setting written (R173). -/
theorem cmdSetMissPolicy_inRange {bp bd bw : Byte} {d : Device} {w : Fin 16} (s : State) (hp : bp.toNat < 2)
    (hd : bd.toNat = d.val) (hw : bw.toNat = w.val) : cmdSetMissPolicy bp bd bw s =
      if bp.toNat = 1 ∧ (s.device d).residency = .absent then reply [0x05#8] s
      else reply [0x00#8] (writeMissPolicy (if bp.toNat = 1 then .fallback else .abort) d w s) := by
  rw [cmdSetMissPolicy, readMissPolicy_eq, if_pos hp, readFin_some hd, readFin_some hw]
  by_cases h : bp.toNat = 1 <;> simp [h, replyResult, ResultCode.toByte]

theorem writeMissPolicy_frame (p : MissPolicy) (d : Device) (w : Fin 16) (s : State) : writeMissPolicy p d w s =
    { s with missPolicy := p, fallbackDevice := d, fallbackWaits := w
             devices := (writeMissPolicy p d w s).devices } := by
  unfold writeMissPolicy takeFallback dropFallback
  cases p <;> cases s.missPolicy <;> rfl

/-- Settles O48: the setting is written and the counts are the references under it (`writeMissPolicy_device`). -/
theorem setMissPolicyMovesTheReference : Obligations.SetMissPolicyMovesTheReference := by
  intro s bp bd bw h hb hr s₀
  have law : ReferenceLaw s₀ := ((sameRecords_quiet s).ages.trans
    (sameRecords_takeCommandByte (s := s.quiet) hb).ages).references hr
  have device : ∀ e, s₀.device e = s.device e := takeCommandByte_device _
  rw [exec_setMissPolicy bp bd bw h hb]
  refine ⟨fun hbad => ?_, fun d w hp hd hw => ?_⟩
  · rw [cmdSetMissPolicy_badValue _ hbad]
  · rw [cmdSetMissPolicy_inRange _ hp hd hw, device]
    refine ⟨fun h1 ha => by rw [if_pos ⟨h1, ha⟩], fun hok => ?_⟩
    refine ⟨writeMissPolicy (if bp.toNat = 1 then .fallback else .abort) d w s₀, ?_,
      writeMissPolicy_frame _ d w s₀, fun e => ?_⟩
    · rw [if_neg]
      rintro ⟨h1, ha⟩
      rcases hok with h0 | hn
      · omega
      · exact hn ha
    · rw [writeMissPolicy_device law, device]

end Sys2Proof.Machine
end

section
/-! PROOF. The law of places and the numbers of the cycles (O55): every step keeps each claim in the one place that its
phase names, and a cycle has a number that no earlier one had. -/

namespace Sys2Proof.Machine

/-! ## The law, master by master -/

/-- A master's claim stands in the one place that its phase names, and the cycle of an ACTIVE claim has its pins
(R29, R39, R41, R49). -/
structure InPlace (s : State) (k : Master) : Prop where
  intercept : k ∈ s.interceptList ↔ s.phaseOf k = some .intercept
  held : k ∈ s.holdList ↔ s.phaseOf k = some .held
  ready : k ∈ s.readyList ↔ s.phaseOf k = some .ready
  active : s.phaseOf k = some .active ↔ s.cycle.map DeviceCycle.master = some k
  pins : ∀ cy ∈ s.cycle, cy.master = k → ∀ a ∈ s.accessOf k, cy = cycleOf cy.number k a
  reset : softResetting s = true → s.phaseOf k = none

/-- No list holds a master twice (R39). -/
structure ListsNodup (s : State) : Prop where
  intercept : s.interceptList.Nodup
  held : s.holdList.Nodup
  ready : s.readyList.Nodup

theorem phaseOf_none_iff (s : State) (m : Master) : s.phaseOf m = none ↔ s.claim m = none := by
  rw [State.phaseOf, Option.map_eq_none_iff]

theorem phaseOf_some {s : State} {m : Master} {c : Claim} (h : s.claim m = some c) : s.phaseOf m = some c.phase := by
  rw [State.phaseOf, h, Option.map_some]

theorem accessOf_some {s : State} {m : Master} {c : Claim} (h : s.claim m = some c) :
    s.accessOf m = some c.access := by
  rw [State.accessOf, h, Option.map_some]

theorem placesLaw_iff (s : State) : PlacesLaw s ↔ ListsNodup s ∧ ∀ k, InPlace s k := by
  constructor
  · rintro ⟨nI, nH, nR, hI, hH, hR, hA, pins, reset⟩
    refine ⟨⟨nI, nH, nR⟩, fun k => ⟨hI k, hH k, hR k, hA k, fun cy hcy hk a ha => ?_, fun h => ?_⟩⟩
    · obtain ⟨c, hc, rfl⟩ := Option.map_eq_some_iff.mp ha
      subst hk
      exact pins cy hcy c hc
    · rw [phaseOf_none_iff]; exact reset h k
  · rintro ⟨n, h⟩
    refine ⟨n.intercept, n.held, n.ready, fun k => (h k).intercept, fun k => (h k).held, fun k => (h k).ready,
      fun k => (h k).active, fun cy hcy c hc => (h cy.master).pins cy hcy rfl _ (accessOf_some hc), fun hr k => ?_⟩
    rw [← phaseOf_none_iff]; exact (h k).reset hr

/-- A claim in flight rules a soft reset out (R49). -/
theorem PlacesLaw.running {s : State} (h : PlacesLaw s) {m : Master} {c : Claim} (hm : s.claim m = some c) :
    softResetting s = false := by
  by_contra hr
  obtain ⟨_, _, _, _, _, _, _, _, reset⟩ := h
  rw [reset (Bool.eq_true_of_not_eq_false hr) m] at hm
  cases hm

/-- What a master's place is read from has not changed. -/
structure SamePlace (s t : State) (k : Master) : Prop where
  phase : t.phaseOf k = s.phaseOf k
  access : t.accessOf k = s.accessOf k
  intercept : k ∈ t.interceptList ↔ k ∈ s.interceptList
  held : k ∈ t.holdList ↔ k ∈ s.holdList
  ready : k ∈ t.readyList ↔ k ∈ s.readyList
  cycle : ∀ cy, cy.master = k → (t.cycle = some cy ↔ s.cycle = some cy)

theorem map_master_iff (c : Option DeviceCycle) (k : Master) :
    c.map DeviceCycle.master = some k ↔ ∃ cy, cy.master = k ∧ c = some cy := by
  rw [Option.map_eq_some_iff]
  exact exists_congr fun _ => and_comm

theorem InPlace.of_same {s t : State} {k : Master} (h : InPlace s k) (g : SamePlace s t k)
    (hr : softResetting t = true → softResetting s = true) : InPlace t k where
  intercept := by rw [g.intercept, g.phase]; exact h.intercept
  held := by rw [g.held, g.phase]; exact h.held
  ready := by rw [g.ready, g.phase]; exact h.ready
  active := by
    rw [g.phase, h.active, map_master_iff, map_master_iff]
    exact exists_congr fun cy => and_congr_right fun e => (g.cycle cy e).symm
  pins cy hcy hk a ha := h.pins cy ((g.cycle cy hk).mp hcy) hk a (g.access ▸ ha)
  reset ht := by rw [g.phase]; exact h.reset (hr ht)

theorem phaseOf_congr {s t : State} {k : Master} (h : t.claim k = s.claim k) : t.phaseOf k = s.phaseOf k := by
  rw [State.phaseOf, State.phaseOf, h]

theorem accessOf_congr {s t : State} {k : Master} (h : t.claim k = s.claim k) : t.accessOf k = s.accessOf k := by
  rw [State.accessOf, State.accessOf, h]

/-! ## Effects that begin no cycle -/

/-- No cycle has begun: the count of cycles stays, and a cycle in progress was so before. -/
structure NoCycleBegun (s t : State) : Prop where
  count : t.cyclesBegun = s.cyclesBegun
  cycle : ∀ cy ∈ t.cycle, cy ∈ s.cycle

/-- The places are lawful after a change in which no cycle has begun. -/
structure KeepsPlaces (s t : State) : Prop where
  places : PlacesLaw t
  cycles : NoCycleBegun s t

theorem NoCycleBegun.trans {s t u : State} (h : NoCycleBegun s t) (g : NoCycleBegun t u) : NoCycleBegun s u :=
  ⟨g.count.trans h.count, fun cy hcy => h.cycle cy (g.cycle cy hcy)⟩

theorem KeepsPlaces.refl {s : State} (hs : PlacesLaw s) : KeepsPlaces s s := ⟨hs, rfl, fun _ => id⟩

/-- Two changes, the second from a lawful state. -/
theorem KeepsPlaces.trans {s t u : State} (h : KeepsPlaces s t) (g : PlacesLaw t → KeepsPlaces t u) :
    KeepsPlaces s u :=
  ⟨(g h.places).places, h.cycles.trans (g h.places).cycles⟩

/-- The claim records, the lists and the bus are as they were. -/
structure SamePlaces (s t : State) : Prop where
  claims : t.claims = s.claims
  interceptList : t.interceptList = s.interceptList
  holdList : t.holdList = s.holdList
  readyList : t.readyList = s.readyList
  cycle : t.cycle = s.cycle
  cyclesBegun : t.cyclesBegun = s.cyclesBegun

theorem SamePlaces.refl (s : State) : SamePlaces s s := ⟨rfl, rfl, rfl, rfl, rfl, rfl⟩

theorem SamePlaces.trans {s t u : State} (h : SamePlaces s t) (g : SamePlaces t u) : SamePlaces s u :=
  ⟨g.claims.trans h.claims, g.interceptList.trans h.interceptList, g.holdList.trans h.holdList,
    g.readyList.trans h.readyList, g.cycle.trans h.cycle, g.cyclesBegun.trans h.cyclesBegun⟩

theorem SamePlaces.claim {s t : State} (h : SamePlaces s t) (k : Master) : t.claim k = s.claim k := by
  rw [claim_def, claim_def, h.claims]

theorem SamePlaces.at {s t : State} (h : SamePlaces s t) (k : Master) : SamePlace s t k where
  phase := phaseOf_congr (h.claim k)
  access := accessOf_congr (h.claim k)
  intercept := by rw [h.interceptList]
  held := by rw [h.holdList]
  ready := by rw [h.readyList]
  cycle cy _ := by rw [h.cycle]

theorem SamePlaces.nodup {s t : State} (h : SamePlaces s t) (n : ListsNodup s) : ListsNodup t :=
  ⟨h.interceptList ▸ n.intercept, h.holdList ▸ n.held, h.readyList ▸ n.ready⟩

theorem SamePlaces.cycles {s t : State} (h : SamePlaces s t) : NoCycleBegun s t :=
  ⟨h.cyclesBegun, fun _ hcy => h.cycle ▸ hcy⟩

theorem SamePlaces.keeps {s t : State} (h : SamePlaces s t) (hs : PlacesLaw s)
    (hr : softResetting t = true → softResetting s = true) : KeepsPlaces s t := by
  obtain ⟨n, places⟩ := (placesLaw_iff s).mp hs
  exact ⟨(placesLaw_iff t).mpr ⟨h.nodup n, fun k => (places k).of_same (h.at k) hr⟩, h.cycles⟩

theorem SamePlaces.keeps_of_port {s t : State} (h : SamePlaces s t) (hs : PlacesLaw s) (hp : t.port = s.port) :
    KeepsPlaces s t :=
  h.keeps hs fun hr => softResetting_congr hp ▸ hr

theorem SameRecords.places {s t : State} (h : SameRecords s t) : SamePlaces s t := by
  constructor <;> rw [h.2]

/-! ## A claim that is answered or placed -/

/-- The law of places for every master but one, whose claim is on its way from one place to another. -/
structure PlacesBut (m : Master) (s : State) : Prop where
  nodup : ListsNodup s
  others : ∀ k, k ≠ m → InPlace s k

theorem PlacesLaw.but {s : State} (hs : PlacesLaw s) (m : Master) : PlacesBut m s :=
  ⟨((placesLaw_iff s).mp hs).1, fun k _ => ((placesLaw_iff s).mp hs).2 k⟩

theorem PlacesBut.of_same {m : Master} {s t : State} (hs : PlacesBut m s) (h : SamePlaces s t) (hp : t.port = s.port) :
    PlacesBut m t :=
  ⟨h.nodup hs.nodup, fun k hk => (hs.others k hk).of_same (h.at k) fun hr => softResetting_congr hp ▸ hr⟩

/-- The law holds again where the master's own claim has found its place and the others have kept theirs. -/
theorem PlacesBut.placed {m : Master} {s t : State} (hs : PlacesBut m s) (n : ListsNodup t)
    (hp : t.port = s.port) (others : ∀ k, k ≠ m → SamePlace s t k) (own : InPlace t m) : PlacesLaw t := by
  refine (placesLaw_iff t).mpr ⟨n, fun k => ?_⟩
  by_cases hk : k = m
  · rw [hk]; exact own
  · exact (hs.others k hk).of_same (others k hk) fun hr => softResetting_congr hp ▸ hr

theorem inPlace_nowhere {s : State} {m : Master} (hc : s.claim m = none) (hi : m ∉ s.interceptList)
    (hh : m ∉ s.holdList) (hr : m ∉ s.readyList) (hb : s.cycle.map DeviceCycle.master ≠ some m) : InPlace s m := by
  have phase := (phaseOf_none_iff s m).mpr hc
  constructor <;> simp only [phase, hi, hh, hr, hb, accessOf_none hc, reduceCtorEq] <;> simp

theorem filter_master_iff (c : Option DeviceCycle) (m k : Master) :
    (c.filter fun cy => decide (cy.master ≠ m)).map DeviceCycle.master = some k ↔
      c.map DeviceCycle.master = some k ∧ k ≠ m := by
  cases c with
  | none => simp
  | some cy =>
    by_cases h : cy.master = m
    · simp [h, eq_comm (a := m)]
    · simp only [Option.filter_some, ne_eq, h, not_false_eq_true, decide_true, if_true, Option.map_some,
        Option.some.injEq, iff_self_and]
      exact fun e => e ▸ h

theorem filter_ne_iff (l : List Master) (m k : Master) : k ∈ l.filter (fun x => decide (x ≠ m)) ↔ k ∈ l ∧ k ≠ m := by
  rw [List.mem_filter, decide_eq_true_eq]

theorem answerClaim_samePlace {m k : Master} (a : Access) (r : Reason) (x : DataWord) (s : State) (hk : k ≠ m) :
    SamePlace s (answerClaim m a r x s) k := by
  have claim : (answerClaim m a r x s).claim k = s.claim k := by rw [answerClaim_claim, if_neg hk]
  refine ⟨phaseOf_congr claim, accessOf_congr claim, ?_, ?_, ?_, fun cy e => ?_⟩ <;> rw [answerClaim_frame]
  · rw [filter_ne_iff]; exact and_iff_left hk
  · rw [filter_ne_iff]; exact and_iff_left hk
  · rw [filter_ne_iff]; exact and_iff_left hk
  · rw [Option.filter_eq_some_iff, decide_eq_true_eq, e]; exact and_iff_left hk

/-- The answer of a claim takes it from its place, wherever it is on its way (R44). -/
theorem PlacesBut.answered {m : Master} {s : State} (hs : PlacesBut m s) (a : Access) (r : Reason) (x : DataWord) :
    PlacesLaw (answerClaim m a r x s) := by
  refine hs.placed ?_ (answerClaim_port ..) (fun k hk => answerClaim_samePlace a r x s hk) (inPlace_nowhere ?_ ?_ ?_ ?_ ?_)
  · rw [answerClaim_frame]; exact ⟨hs.nodup.1.filter _, hs.nodup.2.filter _, hs.nodup.3.filter _⟩
  · rw [answerClaim_claim, if_pos rfl]
  all_goals rw [answerClaim_frame]
  · rw [filter_ne_iff]; exact fun h => h.2 rfl
  · rw [filter_ne_iff]; exact fun h => h.2 rfl
  · rw [filter_ne_iff]; exact fun h => h.2 rfl
  · rw [ne_eq, filter_master_iff]; exact fun h => h.2 rfl

theorem answerClaim_noCycle (m : Master) (a : Access) (r : Reason) (x : DataWord) (s : State) :
    NoCycleBegun s (answerClaim m a r x s) := by
  rw [answerClaim_frame]
  exact ⟨rfl, fun cy hcy => (Option.filter_eq_some_iff.mp hcy).1⟩

theorem answerClaim_keepsPlaces {s : State} (hs : PlacesLaw s) (m : Master) (a : Access) (r : Reason) (x : DataWord) :
    KeepsPlaces s (answerClaim m a r x s) :=
  ⟨(hs.but m).answered a r x, answerClaim_noCycle m a r x s⟩

theorem giveAnswer_keepsPlaces {s : State} (hs : PlacesLaw s) {m : Master} (hm : s.claim m = none) (r : Reason)
    (x : DataWord) : KeepsPlaces s (giveAnswer m r x s) :=
  SamePlaces.keeps_of_port ⟨claims_set_none hm, rfl, rfl, rfl, rfl, rfl⟩ hs rfl

theorem not_mem_inFlight {s : State} {m : Master} (h : m ∉ inFlight s) : m ∉ s.interceptList ∧ m ∉ s.holdList ∧
    m ∉ s.readyList ∧ s.cycle.map DeviceCycle.master ≠ some m := by
  simpa only [mem_inFlight_iff, not_or] using h

/-- A claim has entered the tail of the list of its phase, and the other claims are as they were. -/
structure Enters (p : Phase) (m : Master) (s t : State) : Prop where
  phase : t.phaseOf m = some p
  listed : p ≠ .active
  others : ∀ k, k ≠ m → t.claim k = s.claim k
  interceptList : t.interceptList = if p = .intercept then s.interceptList ++ [m] else s.interceptList
  holdList : t.holdList = if p = .held then s.holdList ++ [m] else s.holdList
  readyList : t.readyList = if p = .ready then s.readyList ++ [m] else s.readyList
  cycle : t.cycle = s.cycle
  cyclesBegun : t.cyclesBegun = s.cyclesBegun
  port : t.port = s.port

theorem enterIntercept_enters (m : Master) (a : Access) (s : State) :
    Enters .intercept m s (enterIntercept m a s) where
  phase := by rw [State.phaseOf, enterIntercept_claim, if_pos rfl]; rfl
  listed := by simp
  others k hk := by rw [enterIntercept_claim, if_neg hk]
  interceptList := rfl
  holdList := rfl
  readyList := rfl
  cycle := rfl
  cyclesBegun := rfl
  port := rfl

theorem enterHold_enters (m : Master) (a : Access) (s : State) : Enters .held m s (enterHold m a s) where
  phase := by rw [State.phaseOf, enterHold_claim, if_pos rfl]; rfl
  listed := by simp
  others k hk := by rw [enterHold_claim, if_neg hk]
  interceptList := rfl
  holdList := rfl
  readyList := rfl
  cycle := rfl
  cyclesBegun := rfl
  port := rfl

theorem enterReady_enters (m : Master) (a : Access) (s : State) : Enters .ready m s (enterReady m a s) where
  phase := by rw [State.phaseOf, enterReady_claim, if_pos rfl]; rfl
  listed := by simp
  others k hk := by rw [enterReady_claim, if_neg hk]
  interceptList := rfl
  holdList := rfl
  readyList := rfl
  cycle := rfl
  cyclesBegun := rfl
  port := rfl

theorem mem_tail_iff {l : List Master} {p : Prop} [Decidable p] {k m : Master} :
    (k ∈ if p then l ++ [m] else l) ↔ k ∈ l ∨ k = m ∧ p := by
  by_cases h : p <;> simp [h]

theorem nodup_tail {l : List Master} {p : Prop} [Decidable p] {m : Master} (h : l.Nodup) (hm : m ∉ l) :
    (if p then l ++ [m] else l).Nodup := by
  split
  · rw [← List.concat_eq_append]; exact h.concat hm
  · exact h

/-- Outside a soft reset, a claim that stood nowhere may enter the tail of a list. -/
theorem PlacesBut.entered {m : Master} {s t : State} {p : Phase} (hs : PlacesBut m s) (hm : m ∉ inFlight s)
    (hr : softResetting s = false) (h : Enters p m s t) : PlacesLaw t := by
  obtain ⟨mi, mh, mr, mc⟩ := not_mem_inFlight hm
  refine hs.placed ⟨?_, ?_, ?_⟩ h.port (fun k hk => ?_) ?_
  · rw [h.interceptList]; exact nodup_tail hs.nodup.intercept mi
  · rw [h.holdList]; exact nodup_tail hs.nodup.held mh
  · rw [h.readyList]; exact nodup_tail hs.nodup.ready mr
  · refine ⟨phaseOf_congr (h.others k hk), accessOf_congr (h.others k hk), ?_, ?_, ?_, fun cy _ => by rw [h.cycle]⟩
    · rw [h.interceptList, mem_tail_iff]; simp [hk]
    · rw [h.holdList, mem_tail_iff]; simp [hk]
    · rw [h.readyList, mem_tail_iff]; simp [hk]
  · refine ⟨?_, ?_, ?_, ?_, fun cy hcy hk => ?_, fun ht => ?_⟩
    · rw [h.interceptList, mem_tail_iff, h.phase]; simp [mi]
    · rw [h.holdList, mem_tail_iff, h.phase]; simp [mh]
    · rw [h.readyList, mem_tail_iff, h.phase]; simp [mr]
    · rw [h.cycle, h.phase]; simp [mc, h.listed]
    · rw [h.cycle] at hcy
      exact absurd ((map_master_iff ..).mpr ⟨cy, hk, hcy⟩) mc
    · rw [softResetting_congr h.port, hr] at ht; cases ht

theorem Enters.cycles {p : Phase} {m : Master} {s t : State} (h : Enters p m s t) : NoCycleBegun s t :=
  ⟨h.cyclesBegun, fun _ hcy => h.cycle ▸ hcy⟩

theorem startWake_samePlaces (d : Device) (s : State) : SamePlaces s (startWake d s) := ⟨rfl, rfl, rfl, rfl, rfl, rfl⟩

/-- The residency step gives a claim that stands nowhere a place, or answers it (R37). -/
theorem PlacesBut.residencyStep {m : Master} {s : State} (hs : PlacesBut m s) (hm : m ∉ inFlight s)
    (hr : softResetting s = false) (a : Access) : KeepsPlaces s (residencyStep m a s) := by
  have woken := startWake_samePlaces a.device s
  rcases residencyStep_cases m a s with ⟨_, h⟩ | ⟨_, h⟩ | ⟨_, h⟩ | ⟨_, r, _, h⟩ <;> rw [h]
  · have enters := enterReady_enters m a s
    exact ⟨hs.entered hm hr enters, enters.cycles⟩
  · have enters := enterHold_enters m a s
    exact ⟨hs.entered hm hr enters, enters.cycles⟩
  · have enters := enterHold_enters m a (startWake a.device s)
    exact ⟨(hs.of_same woken rfl).entered hm hr enters, woken.cycles.trans enters.cycles⟩
  · exact ⟨hs.answered a r _, answerClaim_noCycle ..⟩

theorem raiseBound_samePlaces (n : SlotId) (s : State) : SamePlaces s (raiseBound n s) :=
  ⟨rfl, rfl, rfl, rfl, rfl, rfl⟩

theorem setMarker_samePlaces (m : Master) (b : Bool) (s : State) : SamePlaces s (s.setMarker m b) :=
  ⟨rfl, rfl, rfl, rfl, rfl, rfl⟩

/-- A channel without a claim stands nowhere. -/
theorem PlacesLaw.nowhere {s : State} (hs : PlacesLaw s) {m : Master} (hm : s.claim m = none) : m ∉ inFlight s := by
  rw [mem_inFlight hs, hm]; simp

theorem decideClaim_keepsPlaces {s : State} (hs : PlacesLaw s) {m : Master} (hm : s.claim m = none)
    (hr : softResetting s = false) (a : Address) (dir : Direction) (w : Width) (x : DataWord) :
    KeepsPlaces s (decideClaim m a dir w x s) := by
  unfold decideClaim; split
  · exact giveAnswer_keepsPlaces hs hm _ _
  · exact giveAnswer_keepsPlaces hs hm _ _
  · exact (hs.but m).residencyStep (hs.nowhere hm) hr _
  · next n _ =>
    refine ((raiseBound_samePlaces n s).keeps_of_port hs rfl).trans fun bound => ?_
    have nowhere : m ∉ inFlight (raiseBound n s) := bound.nowhere hm
    simp only; split
    · exact answerClaim_keepsPlaces bound ..
    · split
      · have enters := enterIntercept_enters m (windowAccess s n a dir w x) (raiseBound n s)
        exact ⟨(bound.but m).entered nowhere hr enters, enters.cycles⟩
      · exact (bound.but m).residencyStep nowhere hr _

theorem takeClaim_keepsPlaces {s : State} (hs : PlacesLaw s) {m : Master} (hm : s.claim m = none) (a : Address)
    (dir : Direction) (w : Width) (x : DataWord) : KeepsPlaces s (takeClaim m a dir w x s) := by
  refine ((setMarker_samePlaces m false s).keeps_of_port hs rfl).trans fun marked => ?_
  unfold takeClaim; simp only; split
  · exact giveAnswer_keepsPlaces marked hm _ _
  · next h => exact decideClaim_keepsPlaces marked hm (Bool.eq_false_of_not_eq_true h) _ _ _ _

/-! ## Answers to several claims, timers and releases -/

theorem answerAll_keepsPlaces (ms : List Master) (r : Reason) {s : State} (hs : PlacesLaw s) :
    KeepsPlaces s (answerAll ms r s) := by
  induction ms generalizing s with
  | nil => exact .refl hs
  | cons m ms ih =>
    rw [answerAll_cons]
    refine KeepsPlaces.trans ?_ ih
    unfold answerMaster; split
    · exact answerClaim_keepsPlaces hs ..
    · exact .refl hs

theorem reloadIdle_samePlaces (d : Device) (s : State) : SamePlaces s (reloadIdle d s) := by
  rw [reloadIdle_eq]; exact ⟨rfl, rfl, rfl, rfl, rfl, rfl⟩

theorem endPark_samePlaces (d : Device) (s : State) : SamePlaces s (endPark d s) := by
  rw [endPark_eq]; exact ⟨rfl, rfl, rfl, rfl, rfl, rfl⟩

theorem complete_keepsPlaces {s : State} (hs : PlacesLaw s) (m : Master) (a : Access) (dd : DataWord) :
    KeepsPlaces s (complete m a dd s) := by
  refine (answerClaim_keepsPlaces hs m a .done (answerData a.direction a.width dd)).trans fun answered => ?_
  refine ((reloadIdle_samePlaces a.device _).trans (endPark_samePlaces a.device _)).keeps_of_port answered ?_
  exact (endPark_stays ..).1.trans (reloadIdle_stays ..).1

theorem tickAll_keepsPlaces {s : State} (hs : PlacesLaw s) : KeepsPlaces s (tickAll s) := by
  have same : ∀ k, SamePlace s (tickAll s) k := fun k => by
    refine ⟨?_, ?_, Iff.rfl, Iff.rfl, Iff.rfl, fun _ _ => Iff.rfl⟩
    · rw [State.phaseOf, State.phaseOf, tickAll_claim]; cases s.claim k <;> rfl
    · rw [State.accessOf, State.accessOf, tickAll_claim]; cases s.claim k <;> rfl
  obtain ⟨⟨nI, nH, nR⟩, places⟩ := (placesLaw_iff s).mp hs
  exact ⟨(placesLaw_iff _).mpr ⟨⟨nI, nH, nR⟩, fun k =>
    (places k).of_same (same k) fun h => tick_softResetting s ▸ h⟩, rfl, fun _ => id⟩

theorem enterOn_phaseOf (d : Device) (s : State) (k : Master) : (enterOn d s).phaseOf k =
    if k ∈ s.holdList ∧ boundTo s d k = true then (s.phaseOf k).map fun _ => .ready else s.phaseOf k := by
  rw [State.phaseOf, enterOn_claim]
  split
  · rw [State.phaseOf, Option.map_map, Option.map_map]; rfl
  · rfl

/-- The entry to ON moves the claims held for the device from the hold list to the ready list (R84, R85). -/
theorem enterOn_keepsPlaces {s : State} (hs : PlacesLaw s) (d : Device) : KeepsPlaces s (enterOn d s) := by
  obtain ⟨n, places⟩ := (placesLaw_iff s).mp hs
  have lists : (enterOn d s).interceptList = s.interceptList ∧
      (enterOn d s).holdList = s.holdList.filter (fun m => !boundTo s d m) ∧
      (enterOn d s).readyList = s.readyList ++ s.holdList.filter (boundTo s d) ∧
      (enterOn d s).cycle = s.cycle ∧ (enterOn d s).cyclesBegun = s.cyclesBegun := by
    rw [enterOn_eq]; exact ⟨rfl, rfl, rfl, rfl, rfl⟩
  obtain ⟨hI, hH, hR, hC, hB⟩ := lists
  have disjoint : ∀ k ∈ s.readyList, k ∉ s.holdList := fun k hr hh => by
    rw [(places k).ready] at hr
    rw [(places k).held, hr] at hh
    cases hh
  refine ⟨(placesLaw_iff _).mpr ⟨⟨?_, ?_, ?_⟩, fun k => ?_⟩, hB, fun _ h => hC ▸ h⟩
  · rw [hI]; exact n.intercept
  · rw [hH]; exact n.held.filter _
  · rw [hR, List.nodup_append']
    exact ⟨n.ready, n.held.filter _, fun k hr hh => disjoint k hr (List.mem_filter.mp hh).1⟩
  have phase := enterOn_phaseOf d s k
  by_cases hk : k ∈ s.holdList ∧ boundTo s d k = true
  · have held := (places k).held.mp hk.1
    rw [if_pos hk, held] at phase
    have bus := mt (places k).active.mpr (by rw [held]; simp)
    refine ⟨?_, ?_, ?_, ?_, fun cy hcy e => ?_, fun hr => ?_⟩
    · rw [hI, phase, (places k).intercept, held]; simp
    · rw [hH, phase, List.mem_filter]; simp [hk.2]
    · rw [hR, phase, List.mem_append, List.mem_filter]; simp [hk]
    · rw [hC, phase]; simp [bus]
    · exact absurd ((map_master_iff ..).mpr ⟨cy, e, hC ▸ hcy⟩) bus
    · rw [softResetting_congr (enterOn_port d s)] at hr
      rw [(places k).reset hr] at held; cases held
  · have claim : (enterOn d s).claim k = s.claim k := by rw [enterOn_claim, if_neg hk]
    refine (places k).of_same ⟨phaseOf_congr claim, accessOf_congr claim, ?_, ?_, ?_, fun cy _ => by rw [hC]⟩
      fun hr => softResetting_congr (enterOn_port d s) ▸ hr
    · rw [hI]
    · rw [hH, List.mem_filter]
      refine and_iff_left_of_imp fun hh => ?_
      simpa [hh] using hk
    · rw [hR, List.mem_append, List.mem_filter]; simp [hk]

theorem enterFault_keepsPlaces {s : State} (hs : PlacesLaw s) (d : Device) (cause : FaultCause) (ms : List Master) :
    KeepsPlaces s (enterFault d cause ms s) := by
  have faulted : ∀ t r, SamePlaces t (raise .fault (t.setDevice d r)) := fun _ _ => ⟨rfl, rfl, rfl, rfl, rfl, rfl⟩
  exact (answerAll_keepsPlaces ms .deviceFault hs).trans fun answered => (faulted _ _).keeps_of_port answered rfl

theorem samplePgd_samePlaces (d : Device) (level : Bool) (s : State) : SamePlaces s (samplePgd d level s) :=
  ⟨rfl, rfl, rfl, rfl, rfl, rfl⟩

theorem endWake_keepsPlaces {s : State} (hs : PlacesLaw s) (d : Device) (level : Bool) :
    KeepsPlaces s (endWake d level s) := by
  refine ((samplePgd_samePlaces d level s).keeps_of_port hs rfl).trans fun sampled => ?_
  unfold endWake; simp only; split
  · exact enterOn_keepsPlaces sampled d
  · exact enterFault_keepsPlaces sampled d _ _

theorem losePower_keepsPlaces {s : State} (hs : PlacesLaw s) (d : Device) (level : Bool) :
    KeepsPlaces s (losePower d (samplePgd d level s)) :=
  ((samplePgd_samePlaces d level s).keeps_of_port hs rfl).trans fun sampled => enterFault_keepsPlaces sampled d _ _

theorem endIdle_samePlaces (d : Device) (s : State) : SamePlaces s (endIdle d s) := by
  unfold endIdle; split <;> exact ⟨rfl, rfl, rfl, rfl, rfl, rfl⟩

/-! ## Grant (R40, R41) -/

theorem grantHead_claim (m : Master) (rest : List Master) (c : Claim) (s : State) (k : Master) :
    (grantHead m rest c s).claim k = if k = m then some { c with phase := .active, timer := none } else s.claim k :=
  vector_set_getElem s.claims m k _

/-- The head of the ready list takes the free bus: it leaves the list, and the cycle is that of its claim. -/
theorem grantHead_placesLaw {s : State} (hs : PlacesLaw s) {m : Master} {rest : List Master} {c : Claim}
    (hcy : s.cycle = none) (hr : s.readyList = m :: rest) (hm : s.claim m = some c) :
    PlacesLaw (grantHead m rest c s) := by
  obtain ⟨n, places⟩ := (placesLaw_iff s).mp hs
  have nr := n.ready
  rw [hr, List.nodup_cons] at nr
  have ready : s.phaseOf m = some .ready := (places m).ready.mp (by rw [hr]; simp)
  have phase : (grantHead m rest c s).phaseOf m = some .active := by
    rw [State.phaseOf, grantHead_claim, if_pos rfl]; rfl
  have access : (grantHead m rest c s).accessOf m = some c.access := by
    rw [State.accessOf, grantHead_claim, if_pos rfl]; rfl
  refine (hs.but m).placed ⟨n.intercept, n.held, nr.2⟩ rfl (fun k hk => ?_) ?_
  · have claim : (grantHead m rest c s).claim k = s.claim k := by rw [grantHead_claim, if_neg hk]
    refine ⟨phaseOf_congr claim, accessOf_congr claim, Iff.rfl, Iff.rfl, ?_, fun cy e => ?_⟩
    · rw [hr]; simp [grantHead, hk]
    · rw [hcy]
      simp only [grantHead, Option.some.injEq, reduceCtorEq, iff_false]
      rintro rfl
      exact hk e.symm
  · refine ⟨?_, ?_, ?_, ?_, fun cy hcy' _ a ha => ?_, fun hsr => ?_⟩
    · rw [phase]
      exact iff_of_false (fun h => by rw [(places m).intercept.mp h] at ready; cases ready) (by simp)
    · rw [phase]
      exact iff_of_false (fun h => by rw [(places m).held.mp h] at ready; cases ready) (by simp)
    · rw [phase]; exact iff_of_false nr.1 (by simp)
    · rw [phase]; exact iff_of_true rfl rfl
    · rw [access] at ha
      cases ha; cases hcy'; rfl
    · have running : softResetting s = true := hsr
      rw [hs.running hm] at running; cases running

/-! ## Commands -/

theorem replied_keepsPlaces {s t : State} (h : KeepsPlaces s t) (bs : List Byte) : KeepsPlaces s (reply bs t) :=
  h.trans fun ht => SamePlaces.keeps ⟨rfl, rfl, rfl, rfl, rfl, rfl⟩ ht fun hr => by cases hr

theorem retireTaken_samePlaces (n : SlotId) (staged : Bool) (s : State) : SamePlaces s (retireTaken n staged s) := by
  unfold retireTaken; split
  · exact ⟨rfl, rfl, rfl, rfl, rfl, rfl⟩
  · split
    · exact ⟨rfl, rfl, rfl, rfl, rfl, rfl⟩
    · split <;> exact ⟨rfl, rfl, rfl, rfl, rfl, rfl⟩

theorem retireTaken_port (n : SlotId) (staged : Bool) (s : State) : (retireTaken n staged s).port = s.port := by
  unfold retireTaken; split
  · rfl
  · split
    · rfl
    · split <;> rfl

theorem writeMissPolicy_samePlaces (p : MissPolicy) (d : Device) (w : Fin 16) (s : State) :
    SamePlaces s (writeMissPolicy p d w s) := by
  rw [writeMissPolicy_frame]; exact ⟨rfl, rfl, rfl, rfl, rfl, rfl⟩

theorem discardAll_samePlaces (s : State) : SamePlaces s (discardAll s) := by
  constructor <;> rw [discardAll]

theorem applyPublish_samePlaces (s : State) : SamePlaces s (applyPublish s) := by
  constructor <;> rw [applyPublish]

theorem completeSoftReset_samePlaces (s : State) : SamePlaces s (completeSoftReset s) := by
  constructor <;> rw [completeSoftReset, replyResult, reply]

/-- A verdict takes the caught claim from the intercept list to its residency step or to its answer
(R102 to R104). -/
theorem applyVerdict_keepsPlaces {s : State} (hs : PlacesLaw s) (v : Verdict) {m : Master} {c : Claim} (x : DataWord)
    (hi : m ∈ s.interceptList) (hm : s.claim m = some c) : KeepsPlaces s (applyVerdict v m c x s) := by
  obtain ⟨n, places⟩ := (placesLaw_iff s).mp hs
  cases v with
  | pass =>
    have caught := (places m).intercept.mp hi
    have left : PlacesBut m { s with interceptList := s.interceptList.filter fun x => decide (x ≠ m) } := by
      refine ⟨⟨n.intercept.filter _, n.held, n.ready⟩, fun k hk => (places k).of_same ?_ id⟩
      exact ⟨rfl, rfl, by rw [filter_ne_iff]; exact and_iff_left hk, Iff.rfl, Iff.rfl, fun _ _ => Iff.rfl⟩
    have nowhere : m ∉ inFlight { s with interceptList := s.interceptList.filter fun x => decide (x ≠ m) } := by
      have held := mt (places m).held.mp (by rw [caught]; simp)
      have ready := mt (places m).ready.mp (by rw [caught]; simp)
      have bus := mt (places m).active.mpr (by rw [caught]; simp)
      simp [mem_inFlight_iff, held, ready, bus]
    obtain ⟨stepped, cycles⟩ := left.residencyStep nowhere (hs.running hm) c.access
    exact ⟨stepped, cycles.count, cycles.cycle⟩
  | refuse => exact answerClaim_keepsPlaces hs ..
  | supply =>
    have kept : KeepsPlaces s (s.setClaim m (some { c with verdictData := some x })) := by
      have same : ∀ k, SamePlace s (s.setClaim m (some { c with verdictData := some x })) k := fun k => by
        refine ⟨?_, ?_, Iff.rfl, Iff.rfl, Iff.rfl, fun _ _ => Iff.rfl⟩
        · rw [State.phaseOf, claim_setClaim]; split
          · next e => rw [e, phaseOf_some hm]; rfl
          · rfl
        · rw [accessOf_setClaim]; split
          · next e => rw [e, accessOf_some hm]; rfl
          · rfl
      exact ⟨(placesLaw_iff _).mpr ⟨⟨n.intercept, n.held, n.ready⟩, fun k => (places k).of_same (same k) id⟩,
        rfl, fun _ => id⟩
    exact kept.trans fun h => answerClaim_keepsPlaces h ..

theorem places_effects {s : State} (hs : PlacesLaw s) : CommandEffects (KeepsPlaces s) s := by
  have same : ∀ {t}, SamePlaces s t → t.port = s.port → KeepsPlaces s t := fun h hp => h.keeps_of_port hs hp
  exact {
    nothing := .refl hs
    defined := fun _ _ _ _ _ _ => same ⟨rfl, rfl, rfl, rfl, rfl, rfl⟩ rfl
    forgotten := fun _ _ _ => same ⟨rfl, rfl, rfl, rfl, rfl, rfl⟩ rfl
    woken := fun d _ => same (startWake_samePlaces d s) rfl
    reentered := fun d _ => enterOn_keepsPlaces hs d
    parking := fun _ _ _ => same ⟨rfl, rfl, rfl, rfl, rfl, rfl⟩ rfl
    parked := fun _ _ => same ⟨rfl, rfl, rfl, rfl, rfl, rfl⟩ rfl
    cleared := fun _ _ => same ⟨rfl, rfl, rfl, rfl, rfl, rfl⟩ rfl
    opened := fun _ _ _ => same ⟨rfl, rfl, rfl, rfl, rfl, rfl⟩ rfl
    amended := fun _ _ _ _ _ _ _ => same ⟨rfl, rfl, rfl, rfl, rfl, rfl⟩ rfl
    retired := fun n staged _ => same (retireTaken_samePlaces n staged s) (retireTaken_port n staged s)
    untouched := fun _ => same ⟨rfl, rfl, rfl, rfl, rfl, rfl⟩ rfl
    discarded := same (discardAll_samePlaces s) (by rw [discardAll])
    verdict := fun v m c x h => by
      unfold caughtClaim at h
      split at h
      · next hi => exact applyVerdict_keepsPlaces hs v x hi h
      · cases h
    policy := fun p d w _ => same (writeMissPolicy_samePlaces p d w s) (by rw [writeMissPolicy_frame])
    limits := fun _ _ => same ⟨rfl, rfl, rfl, rfl, rfl, rfl⟩ rfl
    mask := fun _ => same ⟨rfl, rfl, rfl, rfl, rfl, rfl⟩ rfl
    flags := fun _ => same ⟨rfl, rfl, rfl, rfl, rfl, rfl⟩ rfl }

/-- The places of a state without claims, lists and cycle are lawful, whatever its port does. -/
theorem placesLaw_empty {s : State} (hc : ∀ m, s.claim m = none) (hi : s.interceptList = []) (hh : s.holdList = [])
    (hr : s.readyList = []) (hb : s.cycle = none) : PlacesLaw s := by
  refine (placesLaw_iff s).mpr ⟨⟨?_, ?_, ?_⟩, fun k => inPlace_nowhere (hc k) ?_ ?_ ?_ ?_⟩ <;>
    simp only [hi, hh, hr, hb] <;> simp

/-- The lists and the bus of a lawful state without claims are empty. -/
theorem PlacesLaw.empty {s : State} (hs : PlacesLaw s) (hc : ∀ m, s.claim m = none) :
    s.interceptList = [] ∧ s.holdList = [] ∧ s.readyList = [] ∧ s.cycle = none := by
  have nowhere : ∀ m, m ∉ inFlight s := fun m => hs.nowhere (hc m)
  refine ⟨?_, ?_, ?_, ?_⟩
  · exact List.eq_nil_iff_forall_not_mem.mpr fun m => (not_mem_inFlight (nowhere m)).1
  · exact List.eq_nil_iff_forall_not_mem.mpr fun m => (not_mem_inFlight (nowhere m)).2.1
  · exact List.eq_nil_iff_forall_not_mem.mpr fun m => (not_mem_inFlight (nowhere m)).2.2.1
  · by_contra h
    obtain ⟨cy, hcy⟩ := Option.ne_none_iff_exists'.mp h
    exact (not_mem_inFlight (nowhere cy.master)).2.2.2 (by rw [hcy]; rfl)

/-- The start of a soft reset, from the answers to the claims in flight (R48, R76, R110, R153). -/
theorem cmdSoftReset_eq (s : State) : cmdSoftReset s = { answerAll (inFlight s) .reset s with
    markers := Vector.replicate 4 false
    devices := mapTable (fun _ r => r.endParkEmpty) (answerAll (inFlight s) .reset s).devices
    port := { (answerAll (inFlight s) .reset s).port with
      condition := .executing .softReset { left := 2, due := false } } } := by
  unfold cmdSoftReset answerAllReset inFlight
  rfl

theorem cmdSoftReset_samePlaces (s : State) : SamePlaces (answerAll (inFlight s) .reset s) (cmdSoftReset s) := by
  rw [cmdSoftReset_eq]
  generalize answerAll (inFlight s) .reset s = t
  exact ⟨rfl, rfl, rfl, rfl, rfl, rfl⟩

/-- The start of a soft reset empties every place (R48). -/
theorem cmdSoftReset_keepsPlaces {s : State} (hs : PlacesLaw s) : KeepsPlaces s (cmdSoftReset s) := by
  have same := cmdSoftReset_samePlaces s
  obtain ⟨answered, cycles⟩ := answerAll_keepsPlaces (inFlight s) .reset hs
  have claim := cmdSoftReset_claim hs.covered.1
  obtain ⟨hi, hh, hr, hb⟩ := answered.empty fun m => by rw [← same.claim]; exact claim m
  exact ⟨placesLaw_empty claim (same.interceptList.trans hi) (same.holdList.trans hh) (same.readyList.trans hr)
    (same.cycle.trans hb), cycles.trans same.cycles⟩

theorem places_decoder {s : State} (hs : PlacesLaw s) : DecoderKeeps (KeepsPlaces s) s :=
  (places_effects hs).decoder (fun bs _ h => replied_keepsPlaces h bs)
    (SamePlaces.keeps ⟨rfl, rfl, rfl, rfl, rfl, rfl⟩ hs fun hr => by cases hr) (cmdSoftReset_keepsPlaces hs)

/-! ## The numbers of the cycles (R43, assumption 18) -/

/-- The cycle in progress has a number that was given, and since a state `s₀` no number has been given twice: the count
has not fallen, and the cycle is the one of that state or has a number given since. -/
structure CyclesSince (s₀ s : State) : Prop where
  given : CycleNumberLaw s
  count : s₀.cyclesBegun ≤ s.cyclesBegun
  fresh : ∀ cy ∈ s.cycle, s₀.cycle = some cy ∨ s₀.cyclesBegun ≤ cy.number

theorem CyclesSince.refl {s : State} (hs : CycleNumberLaw s) : CyclesSince s s :=
  ⟨hs, le_refl _, fun _ h => Or.inl h⟩

theorem NoCycleBegun.since {s₀ s t : State} (h : NoCycleBegun s t) (hs : CyclesSince s₀ s) : CyclesSince s₀ t :=
  ⟨fun cy hcy => h.count ▸ hs.given cy (h.cycle cy hcy), h.count ▸ hs.count,
    fun cy hcy => hs.fresh cy (h.cycle cy hcy)⟩

theorem grantHead_since {s₀ s : State} (hs : CyclesSince s₀ s) (m : Master) (rest : List Master) (c : Claim) :
    CyclesSince s₀ (grantHead m rest c s) where
  given cy hcy := by cases hcy; exact Nat.lt_succ_self _
  count := Nat.le_succ_of_le hs.count
  fresh cy hcy := by cases hcy; exact Or.inr hs.count

/-! ## The law -/

theorem completePublish_samePlaces (s : State) : SamePlaces s (completePublish s) := by
  have done : ∀ bs t, SamePlaces t (raise .done (reply bs t)) := fun _ _ => ⟨rfl, rfl, rfl, rfl, rfl, rfl⟩
  unfold completePublish; split
  · exact done _ _
  · exact (applyPublish_samePlaces s).trans (done _ _)

theorem completePublish_not_softResetting (s : State) : softResetting (completePublish s) = false := by
  unfold completePublish; split <;> rfl

theorem KeepsPlaces.law {s₀ s t : State} (h : KeepsPlaces s t) (hs : CyclesSince s₀ s) :
    PlacesLaw t ∧ CyclesSince s₀ t :=
  ⟨h.places, h.cycles.since hs⟩

/-- Power-on reset and bus reset leave nothing in any place. -/
theorem emptied_law {s₀ s t : State} (hs : CyclesSince s₀ s) (hc : ∀ m, t.claim m = none)
    (hi : t.interceptList = []) (hh : t.holdList = []) (hr : t.readyList = []) (hb : t.cycle = none)
    (hn : t.cyclesBegun = s.cyclesBegun) : PlacesLaw t ∧ CyclesSince s₀ t :=
  KeepsPlaces.law ⟨placesLaw_empty hc hi hh hr hb, hn, fun _ h => by rw [hb] at h; cases h⟩ hs

theorem places_keeps (s₀ : State) : Keeps fun s => PlacesLaw s ∧ CyclesSince s₀ s where
  same s t := fun ⟨hs, hc⟩ h => (h.places.keeps hs fun hr => h.1 ▸ hr).law hc
  arrival m a dir w x s := fun ⟨hs, hc⟩ hm => (takeClaim_keepsPlaces hs hm a dir w x).law hc
  grant m rest c s := fun ⟨hs, hc⟩ hcy hr hm => ⟨grantHead_placesLaw hs hcy hr hm, grantHead_since hc m rest c⟩
  completion cy c dd s := fun ⟨hs, hc⟩ _ _ => (complete_keepsPlaces hs cy.master c.access dd).law hc
  tick s := fun ⟨hs, hc⟩ => (tickAll_keepsPlaces hs).law hc
  wake d level s := fun ⟨hs, hc⟩ _ => (endWake_keepsPlaces hs d level).law hc
  idle d s := fun ⟨hs, hc⟩ _ _ => ((endIdle_samePlaces d s).keeps_of_port hs (endIdle_stays d s).1).law hc
  hold m c s := fun ⟨hs, hc⟩ _ _ => (answerClaim_keepsPlaces hs m c.access .holdTimeout 0#32).law hc
  intercept m c s := fun ⟨hs, hc⟩ _ _ =>
    ((answerClaim_keepsPlaces hs m c.access .interceptTimeout 0#32).trans fun h =>
      (setMarker_samePlaces m true _).keeps_of_port h rfl).law hc
  departure d level s := fun ⟨hs, hc⟩ _ _ => (losePower_keepsPlaces hs d level).law hc
  low s := fun ⟨_, hc⟩ => emptied_law hc (heldInReset_claim s) rfl rfl rfl rfl rfl
  high x s := fun ⟨_, hc⟩ => emptied_law hc (powerOnState_claim x s) rfl rfl rfl rfl rfl
  bus s := fun ⟨_, hc⟩ => emptied_law hc (busReset_claim s) rfl rfl rfl rfl (by rw [busReset])
  record code params s := fun ⟨hs, hc⟩ _ => (runRecord_of (places_decoder hs) code params).law hc
  unknown s := fun ⟨hs, hc⟩ _ => (replied_keepsPlaces (.refl hs) _).law hc
  published s x := fun ⟨hs, hc⟩ _ => ((completePublish_samePlaces s).keeps hs fun hr => by
    rw [completePublish_not_softResetting] at hr; cases hr).law hc
  rebuilt s x := fun ⟨hs, hc⟩ _ => ((completeSoftReset_samePlaces s).keeps hs fun hr => by cases hr).law hc

/-- Settles O55: each effect of `Keeps` takes a claim from one place to another, and a grant alone begins a cycle. -/
theorem stepKeepsEveryClaimInOnePlace : Obligations.StepKeepsEveryClaimInOnePlace := by
  intro s t hs hn h
  obtain ⟨places, cycles⟩ := step_keeps (places_keeps s) h ⟨hs, CyclesSince.refl hn⟩
  exact ⟨places, cycles.given, cycles.count, cycles.fresh⟩

end Sys2Proof.Machine
end

section
/-! SUPPORT. What a command can do while PORN is high, said once: a property of the state after a command holds when it
holds after each effect of the list below. Unlike `Keeps` it says of the port and of the outputs what the effect does
to them, so it serves the laws of the port and of the answers. -/

namespace Sys2Proof.Machine

/-- The effects of a command on a running state without the outputs of an earlier event, each with what is known of
the state in which it happens. -/
structure Effects (c : Instr) (P : State → Prop) (s : State) : Prop where
  nothing : P s
  arrival : ∀ m a dir w x, c = .claimArrival m a dir w x → s.claim m = none →
    P (takeClaim m a dir (widthOfCwid w) x s)
  grant : ∀ m rest cl, s.readyList = m :: rest → s.claim m = some cl → P (grantHead m rest cl s)
  completion : ∀ (cy : DeviceCycle) cl dd, s.claim cy.master = some cl → P (complete cy.master cl.access dd s)
  tick : P (tickAll s)
  wake : ∀ d level, P (endWake d level s)
  idle : ∀ d, P (endIdle d s)
  hold : ∀ m cl, s.claim m = some cl → P (raise .timeout (answerClaim m cl.access .holdTimeout 0#32 s))
  intercept : ∀ m cl, s.claim m = some cl →
    P (raise .timeout ((answerClaim m cl.access .interceptTimeout 0#32 s).setMarker m true))
  departure : ∀ d level, P (losePower d (samplePgd d level s))
  low : c = .powerOnReset → P (heldInReset s)
  bus : c = .busReset → P (busReset s)
  collided : P (collide s)
  orphaned : P (orphan s)
  misused : P (orphan (collide s))
  unknown : P (cmdUnknown (takeCommandByte s))
  command : ∀ code params, P (runRecord code params (takeCommandByte s))
  opened : ∀ code, 0 < code.paramCount →
    P { takeCommandByte s with port := { (takeCommandByte s).port with condition := .collecting code [] } }
  collected : ∀ code params b, params.length + 1 < code.paramCount →
    P { s with port := { s.port with condition := .collecting code (params ++ [b]) } }
  lastByte : ∀ code params, P (runRecord code params { s with port := { s.port with condition := .idle } })
  read : P (readData s)
  published : P (completePublish s)
  rebuilt : P (completeSoftReset s)

section
variable {c : Instr} {P : State → Prop} {s : State} (k : Effects c P s)
include k

theorem Effects.sendWhole (code : CommandCode) (params : List Byte) :
    P (sendWhole code (runRecord code params) s) := by
  unfold Machine.sendWhole; split
  · split
    · exact k.collided
    · exact k.misused
  all_goals exact k.command code params

theorem Effects.writeCommand (b : Byte) : P (writeCommand b s) := by
  unfold Machine.writeCommand; split
  · exact k.collided
  all_goals
    unfold openRecord; simp only; split
    · exact k.unknown
    · split
      · exact k.command _ _
      · exact k.opened _ (by omega)

theorem Effects.writeData (b : Byte) : P (writeData b s) := by
  unfold Machine.writeData; split
  · unfold addParameter; split
    · exact k.lastByte _ _
    · exact k.collected _ _ _ (by omega)
  all_goals exact k.orphaned

end

/-- What every effect establishes, every command taken while PORN is high establishes (the whole of `exec`). -/
theorem exec_of_effects {c : Instr} {P : State → Prop} {s t : State} (k : Effects c P s.quiet)
    (hr : s.inReset = false) (h : exec c s = .next t) : P t := by
  have taken : ∀ {f : State → State}, event s f = .next t → P (f s.quiet) → P t := fun he hf => by
    rw [event_running _ hr] at he
    cases he; exact hf
  cases hw : commandBytes c with
  | some w =>
    rw [exec_wholeCommand s hw] at h
    exact taken h (k.sendWhole _ _)
  | none =>
    cases c <;> simp only [commandBytes, reduceCtorEq] at hw
    case claimArrival m a dir w x =>
      simp only [exec, execClaimArrival] at h
      refine taken h ?_
      split
      · exact k.nothing
      · next hm => exact k.arrival _ _ _ _ _ rfl hm
    case grant =>
      simp only [exec, execGrant] at h
      refine taken h ?_
      split
      · next hrl =>
        split
        · next hm => exact k.grant _ _ _ hrl hm
        · exact k.nothing
      all_goals exact k.nothing
    case completion r =>
      simp only [exec, execCompletion] at h
      refine taken h ?_
      split
      · split
        · next hm => exact k.completion _ _ _ hm
        · exact k.nothing
      · exact k.nothing
    case tick => exact taken h k.tick
    case wakeTimerExpiry d level =>
      simp only [exec, execWakeTimerExpiry] at h
      refine taken h ?_
      split
      · exact k.wake _ _
      · exact k.nothing
    case idleTimerExpiry d =>
      simp only [exec, execIdleTimerExpiry] at h
      refine taken h ?_
      split
      · exact k.idle _
      · exact k.nothing
    case holdTimerExpiry m =>
      simp only [exec, execHoldTimerExpiry] at h
      refine taken h ?_
      split
      · next hm =>
        split
        · exact k.hold _ _ hm
        · exact k.nothing
      · exact k.nothing
    case interceptTimerExpiry m =>
      simp only [exec, execInterceptTimerExpiry] at h
      refine taken h ?_
      split
      · next hm =>
        split
        · exact k.intercept _ _ hm
        · exact k.nothing
      · exact k.nothing
    case departureFromConformity d =>
      simp only [exec, execDepartureFromConformity] at h
      refine taken h ?_
      split
      · exact k.nothing
      · split
        · exact k.departure _ _
        · exact k.nothing
    case powerOnReset => exact taken h (k.low rfl)
    case endOfPowerOnReset x y z =>
      simp only [exec, execEndOfPowerOnReset, hr, Bool.false_eq_true, if_false, Host.Outcome.next.injEq] at h
      exact h ▸ k.nothing
    case busReset => exact taken h (k.bus rfl)
    case commandByte b => exact taken h (k.writeCommand b)
    case unknownCommand b => exact taken h (k.writeCommand b)
    case parameterByte b => exact taken h (k.writeData b)
    case replyByteRead =>
      simp only [exec, execReplyByteRead, hr, Bool.false_eq_true, if_false, Host.Outcome.next.injEq] at h
      exact h ▸ k.read
    case publishCompletion =>
      simp only [exec, execPublishCompletion] at h
      refine taken h ?_
      split
      · split
        · exact k.published
        · exact k.nothing
      all_goals exact k.nothing
    case softResetCompletion =>
      simp only [exec, execSoftResetCompletion] at h
      refine taken h ?_
      split
      · split
        · exact k.rebuilt
        · exact k.nothing
      all_goals exact k.nothing

end Sys2Proof.Machine
end

section
/-! PROOF. One answer for every claim (O60): the answers that a master has received and its claim in flight, counted
together, change by the claims taken from its channel alone. -/

namespace Sys2Proof.Machine

/-! ## The count of answers and flights -/

/-- The answers on a master's channel (R44). -/
def answersTo (k : Master) (s : State) : Nat := s.answers.countP fun x => decide (x.master = k)

/-- A claim in flight counts one. -/
def flights (k : Master) (s : State) : Nat := if (s.claim k).isSome = true then 1 else 0

/-- The answers on a master's channel and its claim in flight. -/
def tally (k : Master) (s : State) : Nat := answersTo k s + flights k s

/-- The count once one more claim of a master has been taken: that claim in flight, or its answer. -/
def tallyWith (m k : Master) (s : State) : Nat := answersTo k s + if k = m then 1 else flights k s

theorem tallyWith_of_claim {s : State} {m : Master} {c : Claim} (h : s.claim m = some c) (k : Master) :
    tallyWith m k s = tally k s := by
  unfold tallyWith tally flights
  by_cases hk : k = m
  · simp [hk, h]
  · rw [if_neg hk]

theorem tallyWith_of_ne {s : State} {m k : Master} (h : k ≠ m) : tallyWith m k s = tally k s := by
  rw [tallyWith, tally, if_neg h]

theorem tally_congr {s t : State} (ha : t.answers = s.answers) {k : Master}
    (hc : (t.claim k).isSome = (s.claim k).isSome) : tally k t = tally k s := by
  rw [tally, tally, answersTo, answersTo, flights, flights, ha, hc]

theorem tally_of_eq {s t : State} (ha : t.answers = s.answers) (hc : t.claims = s.claims) (k : Master) :
    tally k t = tally k s :=
  tally_congr ha (by rw [claim_def, claim_def, hc])

theorem tallyWith_of_eq {s t : State} (ha : t.answers = s.answers) (hc : t.claims = s.claims) (m k : Master) :
    tallyWith m k t = tallyWith m k s := by
  rw [tallyWith, tallyWith, answersTo, answersTo, flights, flights, claim_def, claim_def, ha, hc]

/-! ## A claim that is answered or placed -/

theorem answersTo_append (k m : Master) (r : Reason) (x : DataWord) (s t : State)
    (h : t.answers = s.answers ++ [{ master := m, reason := r, data := x }]) :
    answersTo k t = answersTo k s + if k = m then 1 else 0 := by
  rw [answersTo, h, List.countP_append, List.countP_singleton, answersTo]
  simp [eq_comm]

/-- An answer that empties its master's record is that claim's one answer (R44). -/
theorem tally_answered {s t : State} {m : Master} {r : Reason} {x : DataWord}
    (ha : t.answers = s.answers ++ [{ master := m, reason := r, data := x }])
    (hc : ∀ k, t.claim k = if k = m then none else s.claim k) (k : Master) : tally k t = tallyWith m k s := by
  rw [tally, tallyWith, answersTo_append k m r x s t ha, flights, hc]
  by_cases hk : k = m
  · simp [hk]
  · simp only [hk, if_false]; rfl

theorem answerClaim_tally (m : Master) (a : Access) (r : Reason) (x : DataWord) (s : State) (k : Master) :
    tally k (answerClaim m a r x s) = tallyWith m k s :=
  tally_answered (by rw [answerClaim_frame]) (fun k => answerClaim_claim m k a r x s) k

theorem giveAnswer_tally (m : Master) (r : Reason) (x : DataWord) (s : State) (k : Master) :
    tally k (giveAnswer m r x s) = tallyWith m k s :=
  tally_answered rfl (fun k => giveAnswer_claim m k r x s) k

/-- A claim that enters a list is in flight and has no answer yet. -/
theorem Enters.tally {p : Phase} {m : Master} {s t : State} (h : Enters p m s t) (ha : t.answers = s.answers)
    (k : Master) : tally k t = tallyWith m k s := by
  rw [Machine.tally, tallyWith, answersTo, answersTo, ha, flights]
  by_cases hk : k = m
  · have placed : (t.claim m).isSome = true := by
      have phase := h.phase
      rw [State.phaseOf, Option.map_eq_some_iff] at phase
      obtain ⟨c, hc, _⟩ := phase
      rw [hc]; rfl
    rw [hk, if_pos placed, if_pos rfl]
  · rw [h.others k hk, if_neg hk]; rfl

theorem residencyStep_tally (m : Master) (a : Access) (s : State) (k : Master) :
    tally k (residencyStep m a s) = tallyWith m k s := by
  rcases residencyStep_cases m a s with ⟨_, h⟩ | ⟨_, h⟩ | ⟨_, h⟩ | ⟨_, r, _, h⟩ <;> rw [h]
  · exact (enterReady_enters m a s).tally rfl k
  · exact (enterHold_enters m a s).tally rfl k
  · rw [(enterHold_enters m a (startWake a.device s)).tally rfl k]
    exact tallyWith_of_eq rfl rfl m k
  · exact answerClaim_tally ..

theorem decideClaim_tally (m : Master) (a : Address) (dir : Direction) (w : Width) (x : DataWord) (s : State)
    (k : Master) : tally k (decideClaim m a dir w x s) = tallyWith m k s := by
  have bound : ∀ n, tallyWith m k (raiseBound n s) = tallyWith m k s := fun n => tallyWith_of_eq rfl rfl m k
  unfold decideClaim; split
  · exact giveAnswer_tally ..
  · exact giveAnswer_tally ..
  · exact residencyStep_tally ..
  · next n _ =>
    simp only; split
    · rw [answerClaim_tally, bound]
    · split
      · rw [(enterIntercept_enters m _ (raiseBound n s)).tally rfl k, bound]
      · rw [residencyStep_tally, bound]

/-- A claim taken from a channel is answered at once or in flight afterwards (R30, R49). -/
theorem takeClaim_tally (m : Master) (a : Address) (dir : Direction) (w : Width) (x : DataWord) (s : State)
    (k : Master) : tally k (takeClaim m a dir w x s) = tallyWith m k s := by
  have marked : tallyWith m k (s.setMarker m false) = tallyWith m k s := tallyWith_of_eq rfl rfl m k
  unfold takeClaim; simp only; split
  · rw [giveAnswer_tally, marked]
  · rw [decideClaim_tally, marked]

/-! ## Effects that take no claim -/

theorem answerClaim_tally_of_claim {s : State} {m : Master} {c : Claim} (h : s.claim m = some c) (a : Access)
    (r : Reason) (x : DataWord) (k : Master) : tally k (answerClaim m a r x s) = tally k s := by
  rw [answerClaim_tally, tallyWith_of_claim h]

theorem answerAll_tally (ms : List Master) (r : Reason) (s : State) (k : Master) :
    tally k (answerAll ms r s) = tally k s := by
  induction ms generalizing s with
  | nil => rfl
  | cons m ms ih =>
    rw [answerAll_cons, ih]
    unfold answerMaster; split
    · next h => exact answerClaim_tally_of_claim h ..
    · rfl

theorem complete_tally {s : State} {m : Master} {c : Claim} (h : s.claim m = some c) (a : Access) (dd : DataWord)
    (k : Master) : tally k (complete m a dd s) = tally k s := by
  have reloaded : ∀ d t, tally k (reloadIdle d t) = tally k t := fun d t => by
    rw [reloadIdle_eq]; exact tally_of_eq rfl rfl k
  have parked : ∀ d t, tally k (endPark d t) = tally k t := fun d t => by
    rw [endPark_eq]; exact tally_of_eq rfl rfl k
  rw [complete, parked, reloaded, answerClaim_tally_of_claim h]

theorem enterOn_tally (d : Device) (s : State) (k : Master) : tally k (enterOn d s) = tally k s := by
  refine tally_congr (by rw [enterOn_eq]) ?_
  rw [enterOn_claim]; split
  · rw [Option.isSome_map]
  · rfl

theorem enterFault_tally (d : Device) (cause : FaultCause) (ms : List Master) (s : State) (k : Master) :
    tally k (enterFault d cause ms s) = tally k s := by
  have faulted : ∀ t r, tally k (raise .fault (t.setDevice d r)) = tally k t := fun _ _ => tally_of_eq rfl rfl k
  rw [enterFault, faulted, answerAll_tally]

theorem samplePgd_tally (d : Device) (level : Bool) (s : State) (k : Master) :
    tally k (samplePgd d level s) = tally k s := tally_of_eq rfl rfl k

theorem endWake_tally (d : Device) (level : Bool) (s : State) (k : Master) :
    tally k (endWake d level s) = tally k s := by
  unfold endWake; simp only; split
  · rw [enterOn_tally, samplePgd_tally]
  · rw [enterFault_tally, samplePgd_tally]

theorem endIdle_tally (d : Device) (s : State) (k : Master) : tally k (endIdle d s) = tally k s := by
  unfold endIdle; split <;> exact tally_of_eq rfl rfl k

theorem grantHead_tally {s : State} {m : Master} {c : Claim} (h : s.claim m = some c) (rest : List Master)
    (k : Master) : tally k (grantHead m rest c s) = tally k s := by
  refine tally_congr (s := s) (t := grantHead m rest c s) rfl ?_
  rw [grantHead_claim]; split
  · next e => rw [e, h]; rfl
  · rfl

theorem tickAll_tally (s : State) (k : Master) : tally k (tickAll s) = tally k s :=
  tally_congr (s := s) (t := tickAll s) rfl (by rw [tickAll_claim, Option.isSome_map])

theorem takeCommandByte_tally (s : State) (k : Master) : tally k (takeCommandByte s) = tally k s :=
  tally_of_eq (takeCommandByte_answers s) (takeCommandByte_claims s) k

theorem applyVerdict_tally {s : State} (v : Verdict) {m : Master} {c : Claim} (x : DataWord)
    (hm : s.claim m = some c) (k : Master) : tally k (applyVerdict v m c x s) = tally k s := by
  cases v with
  | pass =>
    unfold applyVerdict applyPass
    rw [residencyStep_tally, ← tallyWith_of_claim hm]
    exact tallyWith_of_eq rfl rfl m k
  | refuse => exact answerClaim_tally_of_claim hm ..
  | supply =>
    have kept : (s.setClaim m (some { c with verdictData := some x })).claim m = some { c with verdictData := some x } := by
      rw [claim_setClaim, if_pos rfl]
    unfold applyVerdict applySupply
    simp only
    rw [answerClaim_tally_of_claim kept]
    refine tally_congr (s := s) (t := s.setClaim m _) rfl ?_
    rw [claim_setClaim]; split
    · next e => rw [e, hm]; rfl
    · rfl

theorem retireTaken_answers (n : SlotId) (staged : Bool) (s : State) : (retireTaken n staged s).answers = s.answers := by
  unfold retireTaken; split
  · rfl
  · split
    · rfl
    · split <;> rfl

theorem cmdSoftReset_tally (s : State) (k : Master) : tally k (cmdSoftReset s) = tally k s := by
  rw [← answerAll_tally (inFlight s) .reset s k]
  exact tally_of_eq (by rw [cmdSoftReset_eq]) (cmdSoftReset_samePlaces s).claims k

theorem tally_effects (s : State) (k : Master) : CommandEffects (fun t => tally k t = tally k s) s where
  nothing := rfl
  defined _ _ _ _ _ _ := tally_of_eq rfl rfl k
  forgotten _ _ _ := tally_of_eq rfl rfl k
  woken _ _ := tally_of_eq rfl rfl k
  reentered d _ := enterOn_tally d s k
  parking _ _ _ := tally_of_eq rfl rfl k
  parked _ _ := tally_of_eq rfl rfl k
  cleared _ _ := tally_of_eq rfl rfl k
  opened _ _ _ := tally_of_eq rfl rfl k
  amended _ _ _ _ _ _ _ := tally_of_eq rfl rfl k
  retired n staged _ := tally_of_eq (retireTaken_answers n staged s) (retireTaken_samePlaces n staged s).claims k
  untouched _ := tally_of_eq rfl rfl k
  discarded := tally_of_eq (by rw [discardAll]) (by rw [discardAll]) k
  verdict v m c x h := by
    unfold caughtClaim at h
    split at h
    · exact applyVerdict_tally v x h k
    · cases h
  policy p d w _ := tally_of_eq (by rw [writeMissPolicy_frame]) (by rw [writeMissPolicy_frame]) k
  limits _ _ := tally_of_eq rfl rfl k
  mask _ := tally_of_eq rfl rfl k
  flags _ := tally_of_eq rfl rfl k

theorem reply_tally (bs : List Byte) (s : State) (k : Master) : tally k (reply bs s) = tally k s :=
  tally_of_eq rfl rfl k

theorem runRecord_tally (code : CommandCode) (params : List Byte) (s : State) (k : Master) :
    tally k (runRecord code params s) = tally k s :=
  runRecord_of (Q := fun t => tally k t = tally k s) ((tally_effects s k).decoder
    (fun bs t ht => (reply_tally bs t k).trans ht) (tally_of_eq rfl rfl k)
    (cmdSoftReset_tally s k)) code params

theorem readData_tally (s : State) (k : Master) : tally k (readData s) = tally k s := by
  unfold readData; split <;> exact tally_of_eq rfl rfl k

theorem completePublish_tally (s : State) (k : Master) : tally k (completePublish s) = tally k s := by
  have done : ∀ bs t, tally k (raise .done (reply bs t)) = tally k t := fun _ _ => tally_of_eq rfl rfl k
  unfold completePublish; split
  · exact done _ _
  · rw [done]; exact tally_of_eq (by rw [applyPublish]) (by rw [applyPublish]) k

theorem completeSoftReset_tally (s : State) (k : Master) : tally k (completeSoftReset s) = tally k s :=
  tally_of_eq (by rw [completeSoftReset, replyResult, reply]) (completeSoftReset_samePlaces s).claims k

/-! ## The law -/

/-- A command that takes no claim of a master, and is no reset that drops its claim without an answer, keeps the count
of its answers and flights. -/
theorem tally_effects_of_command {c : Instr} {s : State} {k : Master} (hb : c ≠ .busReset) (hl : c ≠ .powerOnReset)
    (hc : ∀ m a dir w x, c = .claimArrival m a dir w x → s.claim m = none → k ≠ m) :
    Effects c (fun t => tally k t = tally k s) s where
  nothing := rfl
  arrival m a dir w x h hm := by rw [takeClaim_tally, tallyWith_of_ne (hc m a dir w x h hm)]
  grant _ rest _ _ hm := grantHead_tally hm rest k
  completion _ _ dd hm := complete_tally hm _ dd k
  tick := tickAll_tally s k
  wake d level := endWake_tally d level s k
  idle d := endIdle_tally d s k
  hold _ _ hm := (tally_of_eq rfl rfl k).trans (answerClaim_tally_of_claim hm _ _ _ k)
  intercept _ _ hm := (tally_of_eq rfl rfl k).trans (answerClaim_tally_of_claim hm _ _ _ k)
  departure d level := (enterFault_tally ..).trans (samplePgd_tally d level s k)
  low h := absurd h hl
  bus h := absurd h hb
  collided := tally_of_eq rfl rfl k
  orphaned := tally_of_eq rfl rfl k
  misused := tally_of_eq rfl rfl k
  unknown := (reply_tally ..).trans (takeCommandByte_tally s k)
  command code params := (runRecord_tally ..).trans (takeCommandByte_tally s k)
  opened _ _ := (tally_of_eq rfl rfl k).trans (takeCommandByte_tally s k)
  collected _ _ _ _ := tally_of_eq rfl rfl k
  lastByte code params := (runRecord_tally ..).trans (tally_of_eq rfl rfl k)
  read := readData_tally s k
  published := completePublish_tally s k
  rebuilt := completeSoftReset_tally s k

/-- With no answer of an earlier event, the count is that of the claim in flight. -/
theorem tally_quiet (s : State) (k : Master) : tally k s.quiet = flights k s := by
  rw [tally, answersTo, quiet_answers, List.countP_nil, Nat.zero_add]; rfl

theorem busReset_no_answer {s t : State} (h : exec .busReset s = .next t) : t.answers = [] := by
  simp only [exec, execBusReset, event, Host.Outcome.next.injEq] at h
  rw [← h]; split
  · rfl
  · rw [busReset]; rfl

theorem powerOnReset_no_answer {s t : State} (h : exec .powerOnReset s = .next t) : t.answers = [] := by
  simp only [exec, execPowerOnReset, event, Host.Outcome.next.injEq] at h
  rw [← h]; split <;> rfl

/-- Settles O60: the count of a master's answers and flights is kept (`tally_effects_of_command`) but for the one claim
that an arrival takes (`takeClaim_tally`). -/
theorem everyClaimReceivesOneAnswer : Obligations.EveryClaimReceivesOneAnswer := by
  intro s t c m _ h answers
  have split : answers + flights m t = tally m t := rfl
  refine ⟨?_, fun hb hl _ hr => ⟨fun hc => ?_, ?_⟩⟩
  · rintro (rfl | rfl)
    · simp only [answers, busReset_no_answer h, List.countP_nil]
    · simp only [answers, powerOnReset_no_answer h, List.countP_nil]
  · have kept := exec_of_effects (tally_effects_of_command (c := c) (s := s.quiet) (k := m) hb hl
      fun k a dir w x hk hn e => by
        subst e
        rcases hc with hc | hc
        · exact hc a dir w x hk
        · rw [quiet_claim] at hn; rw [hn] at hc; cases hc) hr h
    rw [tally_quiet, ← split] at kept
    unfold flights at kept
    cases hs : s.claim m <;> cases ht : t.claim m <;> simp [hs, ht] at kept ⊢ <;> omega
  · rintro a dir w x rfl hn
    rw [exec_claimArrival a dir w x hr hn] at h
    cases h
    have taken := takeClaim_tally m a dir (widthOfCwid w) x s.quiet m
    rw [← split, tallyWith, if_pos rfl, answersTo, quiet_answers, List.countP_nil] at taken
    unfold flights at taken
    cases ht : (takeClaim m a dir (widthOfCwid w) x s.quiet).claim m <;> simp [ht] at taken ⊢ <;> omega

end Sys2Proof.Machine
end

section
/-! PROOF. The claim records and the port as their tables say (O57). -/

namespace Sys2Proof.Machine

/-! ## Timers and accesses -/

/-- A claim's timer runs in INTERCEPT and HELD alone, with 1 to 250 ticks left (R83, R98). -/
def TimerShaped (p : Phase) (t : Option Timer) : Prop :=
  ((p = .intercept ∨ p = .held) ↔ t.isSome = true) ∧
    (t.all fun x => decide (1 ≤ x.left) && decide (x.left ≤ 250)) = true

/-- Write data are there for a WRITE alone, as many bytes as the width names (R28). -/
def Access.Shaped (a : Access) : Prop :=
  (a.writeData.isSome = true ↔ a.direction = .write) ∧
    (a.writeData.all fun b => decide (b.length = a.width.bytes)) = true

theorem claim_shaped_iff (c : Claim) : c.Shaped ↔ TimerShaped c.phase c.timer ∧ c.access.Shaped := by
  rw [Claim.Shaped, TimerShaped, Access.Shaped, and_assoc]

theorem timerShaped_load {p : Phase} {n : Nat} (hp : p = .intercept ∨ p = .held) (hn : 1 ≤ n ∧ n ≤ 250) :
    TimerShaped p (Timer.load n) := by
  have : n ≠ 0 := by omega
  simp [TimerShaped, Timer.load, this, hp, hn]

theorem timerShaped_none {p : Phase} (hp : ¬ (p = .intercept ∨ p = .held)) : TimerShaped p none := by
  simp [TimerShaped, hp]

/-- A tick leaves at least 1, and no more than before (R58). -/
theorem tick_left (t : Timer) (n : Nat) (h : 1 ≤ t.left ∧ t.left ≤ n) : 1 ≤ t.tick.left ∧ t.tick.left ≤ n := by
  unfold Timer.tick
  split
  · exact h
  · simp only; omega

theorem timerShaped_tick {p : Phase} {t : Option Timer} (h : TimerShaped p t) :
    TimerShaped p (t.map Timer.tick) := by
  obtain ⟨running, left⟩ := h
  refine ⟨by rw [Option.isSome_map]; exact running, ?_⟩
  cases t with
  | none => rfl
  | some t =>
    rw [Option.all_some, Bool.and_eq_true, decide_eq_true_eq, decide_eq_true_eq] at left
    rw [Option.map_some, Option.all_some, Bool.and_eq_true, decide_eq_true_eq, decide_eq_true_eq]
    exact tick_left t 250 left

theorem laneBytes_length (w : Width) (x : DataWord) : (laneBytes w x).length = w.bytes := by
  cases w <;> rfl

theorem access_shaped_of_writeDataOf {a : Access} {x : DataWord}
    (h : a.writeData = writeDataOf a.direction a.width x) : a.Shaped := by
  unfold Access.Shaped
  rw [h]
  cases a.direction <;> simp [writeDataOf, laneBytes_length]

/-! ## The records under the claim events -/

/-- The records stay shaped where each claim was there before or is shaped, and the limits stay. -/
theorem ClaimsShaped.of_claims {s t : State} (hs : ClaimsShaped s)
    (hc : ∀ m c, t.claim m = some c → s.claim m = some c ∨ c.Shaped) (hh : t.holdLimit = s.holdLimit)
    (hi : t.interceptLimit = s.interceptLimit) : ClaimsShaped t := by
  obtain ⟨claims, hold, intercept⟩ := hs
  exact ⟨fun m c h => (hc m c h).elim (claims m c) id, hh ▸ hold, hi ▸ intercept⟩

theorem ClaimsShaped.of_eq {s t : State} (hs : ClaimsShaped s) (hc : t.claims = s.claims)
    (hh : t.holdLimit = s.holdLimit) (hi : t.interceptLimit = s.interceptLimit) : ClaimsShaped t :=
  hs.of_claims (fun m c h => Or.inl (by rw [claim_def] at h ⊢; rwa [hc] at h)) hh hi

/-- One claim written, and shaped. -/
theorem ClaimsShaped.of_claim {s t : State} (hs : ClaimsShaped s) {m : Master} {c : Claim}
    (hc : ∀ k, t.claim k = if k = m then some c else s.claim k) (hm : c.Shaped) (hh : t.holdLimit = s.holdLimit)
    (hi : t.interceptLimit = s.interceptLimit) : ClaimsShaped t := by
  refine hs.of_claims (fun k x h => ?_) hh hi
  rw [hc] at h
  split at h
  · cases h; exact Or.inr hm
  · exact Or.inl h

/-- Claims that end leave the others as they were. -/
theorem ClaimsShaped.of_ended {s t : State} (hs : ClaimsShaped s)
    (hc : ∀ k, t.claim k = none ∨ t.claim k = s.claim k) (hh : t.holdLimit = s.holdLimit)
    (hi : t.interceptLimit = s.interceptLimit) : ClaimsShaped t := by
  refine hs.of_claims (fun k x h => ?_) hh hi
  rcases hc k with e | e
  · rw [e] at h; cases h
  · rw [e] at h; exact Or.inl h

theorem giveAnswer_claimsShaped {s : State} (hs : ClaimsShaped s) (m : Master) (r : Reason) (x : DataWord) :
    ClaimsShaped (giveAnswer m r x s) :=
  hs.of_ended (fun k => by rw [giveAnswer_claim]; split <;> simp) rfl rfl

theorem answerClaim_claimsShaped {s : State} (hs : ClaimsShaped s) (m : Master) (a : Access) (r : Reason)
    (x : DataWord) : ClaimsShaped (answerClaim m a r x s) := by
  refine hs.of_ended (fun k => ?_) (by rw [answerClaim_frame]) (by rw [answerClaim_frame])
  rw [answerClaim_claim]; split <;> simp

theorem answerAll_claimsShaped (ms : List Master) (r : Reason) {s : State} (hs : ClaimsShaped s) :
    ClaimsShaped (answerAll ms r s) := by
  induction ms generalizing s with
  | nil => exact hs
  | cons m ms ih =>
    rw [answerAll_cons]
    apply ih
    unfold answerMaster; split
    · exact answerClaim_claimsShaped hs ..
    · exact hs

theorem enterIntercept_claimsShaped {s : State} (hs : ClaimsShaped s) (m : Master) {a : Access} (ha : a.Shaped) :
    ClaimsShaped (enterIntercept m a s) :=
  hs.of_claim (fun k => enterIntercept_claim m k a s)
    ((claim_shaped_iff _).mpr ⟨timerShaped_load (Or.inl rfl) hs.2.2, ha⟩) rfl rfl

theorem enterHold_claimsShaped {s : State} (hs : ClaimsShaped s) (m : Master) {a : Access} (ha : a.Shaped) :
    ClaimsShaped (enterHold m a s) :=
  hs.of_claim (fun k => enterHold_claim m k a s)
    ((claim_shaped_iff _).mpr ⟨timerShaped_load (Or.inr rfl) hs.2.1, ha⟩) rfl rfl

theorem enterReady_claimsShaped {s : State} (hs : ClaimsShaped s) (m : Master) {a : Access} (ha : a.Shaped) :
    ClaimsShaped (enterReady m a s) :=
  hs.of_claim (fun k => enterReady_claim m k a s)
    ((claim_shaped_iff _).mpr ⟨timerShaped_none (by simp), ha⟩) rfl rfl

theorem residencyStep_claimsShaped {s : State} (hs : ClaimsShaped s) (m : Master) {a : Access} (ha : a.Shaped) :
    ClaimsShaped (residencyStep m a s) := by
  have woken : ClaimsShaped (startWake a.device s) := hs.of_eq rfl rfl rfl
  rcases residencyStep_cases m a s with ⟨_, h⟩ | ⟨_, h⟩ | ⟨_, h⟩ | ⟨_, r, _, h⟩ <;> rw [h]
  · exact enterReady_claimsShaped hs m ha
  · exact enterHold_claimsShaped hs m ha
  · exact enterHold_claimsShaped woken m ha
  · exact answerClaim_claimsShaped hs ..

theorem decideClaim_claimsShaped {s : State} (hs : ClaimsShaped s) (m : Master) (a : Address) (dir : Direction)
    (w : Width) (x : DataWord) : ClaimsShaped (decideClaim m a dir w x s) := by
  unfold decideClaim; split
  · exact giveAnswer_claimsShaped hs ..
  · exact giveAnswer_claimsShaped hs ..
  · exact residencyStep_claimsShaped hs m (access_shaped_of_writeDataOf rfl)
  · next n _ =>
    have bound : ClaimsShaped (raiseBound n s) := hs.of_eq rfl rfl rfl
    have access : (windowAccess s n a dir w x).Shaped := access_shaped_of_writeDataOf rfl
    simp only; split
    · exact answerClaim_claimsShaped bound ..
    · split
      · exact enterIntercept_claimsShaped bound m access
      · exact residencyStep_claimsShaped bound m access

theorem takeClaim_claimsShaped {s : State} (hs : ClaimsShaped s) (m : Master) (a : Address) (dir : Direction)
    (w : Width) (x : DataWord) : ClaimsShaped (takeClaim m a dir w x s) := by
  have marked : ClaimsShaped (s.setMarker m false) := hs.of_eq rfl rfl rfl
  unfold takeClaim; simp only; split
  · exact giveAnswer_claimsShaped marked ..
  · exact decideClaim_claimsShaped marked ..

theorem grantHead_claimsShaped {s : State} (hs : ClaimsShaped s) {m : Master} {c : Claim} (hm : s.claim m = some c)
    (rest : List Master) : ClaimsShaped (grantHead m rest c s) := by
  have access := ((claim_shaped_iff c).mp (hs.1 m c hm)).2
  exact hs.of_claim (fun k => grantHead_claim m rest c s k)
    ((claim_shaped_iff _).mpr ⟨timerShaped_none (by simp), access⟩) rfl rfl

theorem complete_claimsShaped {s : State} (hs : ClaimsShaped s) (m : Master) (a : Access) (dd : DataWord) :
    ClaimsShaped (complete m a dd s) := by
  have reloaded : ∀ d t, ClaimsShaped t → ClaimsShaped (reloadIdle d t) := fun d t ht => by
    rw [reloadIdle_eq]; exact ht.of_eq rfl rfl rfl
  have parked : ∀ d t, ClaimsShaped t → ClaimsShaped (endPark d t) := fun d t ht => by
    rw [endPark_eq]; exact ht.of_eq rfl rfl rfl
  exact parked _ _ (reloaded _ _ (answerClaim_claimsShaped hs ..))

/-! ## The records under timers, power good and resets -/

theorem tickAll_claimsShaped {s : State} (hs : ClaimsShaped s) : ClaimsShaped (tickAll s) := by
  refine hs.of_claims (t := tickAll s) (fun m c h => Or.inr ?_) rfl rfl
  rw [tickAll_claim, Option.map_eq_some_iff] at h
  obtain ⟨c, hc, rfl⟩ := h
  obtain ⟨timer, access⟩ := (claim_shaped_iff c).mp (hs.1 m c hc)
  exact (claim_shaped_iff _).mpr ⟨timerShaped_tick timer, access⟩

theorem enterOn_claimsShaped {s : State} (hs : ClaimsShaped s) (d : Device) : ClaimsShaped (enterOn d s) := by
  refine hs.of_claims (fun m c h => ?_) (by rw [enterOn_eq]) (by rw [enterOn_eq])
  rw [enterOn_claim] at h
  split at h
  · obtain ⟨c, hc, rfl⟩ := Option.map_eq_some_iff.mp h
    have access := ((claim_shaped_iff c).mp (hs.1 m c hc)).2
    exact Or.inr ((claim_shaped_iff _).mpr ⟨timerShaped_none (by simp [Claim.released]), access⟩)
  · exact Or.inl h

theorem enterFault_claimsShaped {s : State} (hs : ClaimsShaped s) (d : Device) (cause : FaultCause)
    (ms : List Master) : ClaimsShaped (enterFault d cause ms s) := by
  have faulted : ∀ t r, ClaimsShaped t → ClaimsShaped (raise .fault (t.setDevice d r)) := fun t r ht =>
    ht.of_eq rfl rfl rfl
  exact faulted _ _ (answerAll_claimsShaped ms .deviceFault hs)

theorem endWake_claimsShaped {s : State} (hs : ClaimsShaped s) (d : Device) (level : Bool) :
    ClaimsShaped (endWake d level s) := by
  have sampled : ClaimsShaped (samplePgd d level s) := hs.of_eq rfl rfl rfl
  unfold endWake; simp only; split
  · exact enterOn_claimsShaped sampled d
  · exact enterFault_claimsShaped sampled d _ _

theorem losePower_claimsShaped {s : State} (hs : ClaimsShaped s) (d : Device) (level : Bool) :
    ClaimsShaped (losePower d (samplePgd d level s)) :=
  enterFault_claimsShaped (hs.of_eq (t := samplePgd d level s) rfl rfl rfl) _ _ _

theorem endIdle_claimsShaped {s : State} (hs : ClaimsShaped s) (d : Device) : ClaimsShaped (endIdle d s) := by
  unfold endIdle; split <;> exact hs.of_eq rfl rfl rfl

theorem busReset_claimsShaped {s : State} (hs : ClaimsShaped s) : ClaimsShaped (busReset s) :=
  hs.of_ended (fun k => Or.inl (busReset_claim s k)) (by rw [busReset]) (by rw [busReset])

theorem heldInReset_claimsShaped (s : State) : ClaimsShaped (heldInReset s) :=
  ⟨fun m c h => by simp [heldInReset_claim] at h, by simp [heldInReset, powerOnState],
    by simp [heldInReset, powerOnState]⟩

/-! ## Records and port together -/

/-- The claim records and the port are as their tables say. -/
structure ClaimsAndPortShaped (s : State) : Prop where
  claims : ClaimsShaped s
  port : PortLaw s

theorem PortLaw.of_port {s t : State} (hs : PortLaw s) (h : t.port = s.port) : PortLaw t := by
  unfold PortLaw; rw [h]; exact hs

theorem replied_shaped {s : State} (hs : ClaimsShaped s) {bs : List Byte} (h : bs ≠ []) (hl : bs.length ≤ 20) :
    ClaimsAndPortShaped (reply bs s) :=
  ⟨hs.of_eq rfl rfl rfl, h, hl⟩

theorem resulted_shaped {s : State} (hs : ClaimsShaped s) (r : ResultCode) : ClaimsAndPortShaped (replyResult r s) :=
  replied_shaped hs (by simp) (by simp)

theorem generation_shaped {s : State} (hs : ClaimsShaped s) (r : ResultCode) (g : Byte) :
    ClaimsAndPortShaped (replyGeneration r g s) :=
  replied_shaped hs (by simp) (by simp)

theorem takeCommandByte_claimsShaped {s : State} (hs : ClaimsShaped s) : ClaimsShaped (takeCommandByte s) :=
  hs.of_eq (takeCommandByte_claims s) (takeCommandByte_holdLimit s) (takeCommandByte_interceptLimit s)

theorem retireTaken_limits (n : SlotId) (staged : Bool) (s : State) :
    (retireTaken n staged s).holdLimit = s.holdLimit ∧
    (retireTaken n staged s).interceptLimit = s.interceptLimit := by
  unfold retireTaken; split
  · exact ⟨rfl, rfl⟩
  · split
    · exact ⟨rfl, rfl⟩
    · split <;> exact ⟨rfl, rfl⟩

/-- INTERCEPT INFO replies fourteen bytes, the write data filled up to four (R100). -/
theorem interceptReply_length (m : Master) {c : Claim} (hc : c.Shaped) : (interceptReply m c).length = 14 := by
  have four : (writeDataReply c.access.writeData).length = 4 := by
    obtain ⟨_, _, _, width⟩ := hc
    have bytes : c.access.width.bytes ≤ 4 := by cases c.access.width <;> decide
    cases hw : c.access.writeData with
    | none => rfl
    | some b =>
      rw [hw, Option.all_some, decide_eq_true_eq] at width
      simp only [writeDataReply, Option.getD_some, List.length_append, List.length_replicate]
      omega
  have two : (bindingBytes c.access.binding).length = 2 := by cases c.access.binding <;> rfl
  simp [interceptReply, addressBytes, four, two]

theorem readTicks_range {b : Byte} {n : Nat} (h : readTicks b = some n) : 1 ≤ n ∧ n ≤ 250 := by
  unfold readTicks at h
  split at h
  · next hr => cases h; exact hr
  · cases h

/-! ## Commands that reply -/

section
variable {s : State} (hs : ClaimsShaped s)
include hs

theorem withDevice_shaped {run : Device → State → State} (h : ∀ d, ClaimsAndPortShaped (run d s)) (b : Byte) :
    ClaimsAndPortShaped (withDevice b run s) := by
  unfold withDevice; split
  · exact h _
  · exact resulted_shaped hs _

theorem setDevice_shaped (d : Device) (r : DeviceRecord) (x : ResultCode) :
    ClaimsAndPortShaped (replyResult x (s.setDevice d r)) :=
  resulted_shaped (hs.of_eq (t := s.setDevice d r) rfl rfl rfl) x

theorem cmdDefineDevice_shaped (b w : Byte) (l : BitVec 16) (o : Byte) :
    ClaimsAndPortShaped (cmdDefineDevice b w l o s) := by
  unfold cmdDefineDevice; split
  · split
    · exact setDevice_shaped hs ..
    · exact setDevice_shaped hs ..
    all_goals exact resulted_shaped hs _
  · exact resulted_shaped hs _

theorem forgetDevice_shaped (d : Device) : ClaimsAndPortShaped (forgetDevice d s) := by
  have forgotten : ClaimsAndPortShaped (if (s.device d).refCount = 0 then
      replyResult .ok (s.setDevice d { s.device d with residency := .absent, faultCause := .none })
      else replyResult .inUse s) := by
    split
    · exact setDevice_shaped hs ..
    · exact resulted_shaped hs _
  unfold forgetDevice; split
  · exact forgotten
  · exact forgotten
  all_goals exact resulted_shaped hs _

theorem wakeDevice_shaped (d : Device) : ClaimsAndPortShaped (wakeDevice d s) := by
  unfold wakeDevice; split
  · exact setDevice_shaped hs ..
  · exact resulted_shaped hs _
  · exact resulted_shaped hs _
  · exact resulted_shaped (enterOn_claimsShaped hs d) _
  all_goals exact resulted_shaped hs _

theorem parkDevice_shaped (d : Device) : ClaimsAndPortShaped (parkDevice d s) := by
  unfold parkDevice; split
  · split <;> exact setDevice_shaped hs ..
  · split
    · exact setDevice_shaped hs ..
    · exact resulted_shaped hs _
  all_goals exact resulted_shaped hs _

theorem clearFault_shaped (d : Device) : ClaimsAndPortShaped (clearFault d s) := by
  unfold clearFault; split
  · exact setDevice_shaped hs ..
  all_goals exact resulted_shaped hs _

theorem cmdOpen_shaped (b : Byte) (base : Address) (z p d w g o : Byte) (r : Option Address) :
    ClaimsAndPortShaped (cmdOpen b base z p d w g o r s) := by
  unfold cmdOpen; split
  · unfold openSlot; split
    · refine generation_shaped ?_ _ _
      exact hs.of_eq rfl rfl rfl
    · exact generation_shaped hs _ _
  · exact generation_shaped hs _ _

theorem cmdAmendWindow_shaped (n e p w g x : Byte) : ClaimsAndPortShaped (cmdAmendWindow n e p w g x s) := by
  unfold cmdAmendWindow; split
  · unfold amendSlot; split
    · refine generation_shaped ?_ _ _
      exact hs.of_eq rfl rfl rfl
    · exact generation_shaped hs _ _
  · exact generation_shaped hs _ _

theorem cmdRetireWindow_shaped (n e x : Byte) : ClaimsAndPortShaped (cmdRetireWindow n e x s) := by
  unfold cmdRetireWindow; split
  · next n staged _ _ =>
    obtain ⟨hold, intercept⟩ := retireTaken_limits n staged s
    unfold retireSlot; split
    · exact resulted_shaped (hs.of_eq (retireTaken_samePlaces n staged s).claims hold intercept) _
    · exact resulted_shaped hs _
  · exact resulted_shaped hs _

theorem cmdReadWindow_shaped (n c : Byte) : ClaimsAndPortShaped (cmdReadWindow n c s) := by
  unfold cmdReadWindow readSlot; split
  · refine replied_shaped ?_ (by simp [slotReply]) (by simp [slotReply, addressBytes])
    split
    · exact hs.of_eq rfl rfl rfl
    · exact hs
  · exact resulted_shaped hs _

theorem cmdDiscard_shaped : ClaimsAndPortShaped (cmdDiscard s) := by
  rw [cmdDiscard_eq]
  exact replied_shaped (hs.of_eq (by rw [discardAll]) (by rw [discardAll]) (by rw [discardAll])) (by simp) (by simp)

theorem cmdProbe_shaped (m dir w : Byte) (a : Address) : ClaimsAndPortShaped (cmdProbe m dir w a s) := by
  have six : ∀ m dir w, (probeReply s m dir w a).length = 6 := fun m dir w => by
    unfold probeReply; split <;> rfl
  unfold cmdProbe; split
  · next m dir w _ _ _ =>
    exact replied_shaped hs (List.ne_nil_of_length_pos (by rw [six]; decide)) (by rw [six]; decide)
  · exact resulted_shaped hs _

theorem cmdInterceptInfo_shaped : ClaimsAndPortShaped (cmdInterceptInfo s) := by
  unfold cmdInterceptInfo; split
  · exact resulted_shaped hs _
  · split
    · next c hm =>
      have length := fun m => interceptReply_length m (hs.1 _ c hm)
      exact replied_shaped hs (List.ne_nil_of_length_pos (by rw [length]; decide)) (by rw [length]; decide)
    · exact resulted_shaped hs _

theorem applyVerdict_claimsShaped (v : Verdict) {m : Master} {c : Claim} (x : DataWord) (hm : s.claim m = some c) :
    ClaimsShaped (applyVerdict v m c x s) := by
  obtain ⟨timer, access⟩ := (claim_shaped_iff c).mp (hs.1 m c hm)
  cases v with
  | pass =>
    have left : ClaimsShaped { s with interceptList := s.interceptList.filter fun x => decide (x ≠ m) } :=
      hs.of_eq rfl rfl rfl
    exact residencyStep_claimsShaped left m access
  | refuse => exact answerClaim_claimsShaped hs ..
  | supply =>
    have kept : ClaimsShaped (s.setClaim m (some { c with verdictData := some x })) :=
      hs.of_claim (fun k => claim_setClaim ..) ((claim_shaped_iff _).mpr ⟨timer, access⟩) rfl rfl
    exact answerClaim_claimsShaped kept ..

theorem cmdVerdictByte_shaped (b v : Byte) (x : DataWord) : ClaimsAndPortShaped (cmdVerdictByte b v x s) := by
  unfold cmdVerdictByte cmdVerdict takeVerdict; split
  · split
    · split
      · next h =>
        unfold caughtClaim at h
        split at h
        · exact resulted_shaped (applyVerdict_claimsShaped hs _ x h) _
        · cases h
      · split <;> exact resulted_shaped hs _
    · exact resulted_shaped hs _
  · exact resulted_shaped hs _

theorem cmdSetMissPolicy_shaped (p d w : Byte) : ClaimsAndPortShaped (cmdSetMissPolicy p d w s) := by
  unfold cmdSetMissPolicy; split
  · split
    · exact resulted_shaped hs _
    · refine resulted_shaped ?_ _
      rw [writeMissPolicy_frame]; exact hs.of_eq rfl rfl rfl
  · exact resulted_shaped hs _

theorem cmdSetLimits_shaped (h i : Byte) : ClaimsAndPortShaped (cmdSetLimits h i s) := by
  unfold cmdSetLimits; split
  · next hh hi =>
    have written : ∀ {h i : Nat}, 1 ≤ h ∧ h ≤ 250 → 1 ≤ i ∧ i ≤ 250 →
        ClaimsShaped { s with holdLimit := h, interceptLimit := i } := fun hh hi => ⟨hs.1, hh, hi⟩
    exact resulted_shaped (written (readTicks_range hh) (readTicks_range hi)) _
  · exact resulted_shaped hs _

theorem cmdSetNotifyMask_shaped (b : Byte) : ClaimsAndPortShaped (cmdSetNotifyMask b s) := by
  unfold cmdSetNotifyMask; split
  · refine resulted_shaped ?_ _
    exact hs.of_eq rfl rfl rfl
  · exact resulted_shaped hs _

theorem cmdClearNotify_shaped (b : Byte) : ClaimsAndPortShaped (cmdClearNotify b s) := by
  unfold cmdClearNotify; split
  · refine resulted_shaped ?_ _
    exact hs.of_eq rfl rfl rfl
  · exact resulted_shaped hs _

theorem cmdSoftReset_shaped : ClaimsAndPortShaped (cmdSoftReset s) := by
  have answered := answerAll_claimsShaped (inFlight s) .reset hs
  rw [cmdSoftReset_eq]
  generalize answerAll (inFlight s) .reset s = t at answered
  exact ⟨answered.of_eq rfl rfl rfl, by simp [PortLaw, PortCondition.Lawful]⟩

/-- Every record that the decoder runs leaves a reply of at most 20 bytes, or an operation of 2 ticks. -/
theorem shaped_decoder : DecoderKeeps ClaimsAndPortShaped s where
  bad := resulted_shaped hs _
  identify := replied_shaped hs (by simp) (by simp)
  defineDevice := cmdDefineDevice_shaped hs
  forgetDevice := withDevice_shaped hs (forgetDevice_shaped hs)
  wakeDevice := withDevice_shaped hs (wakeDevice_shaped hs)
  parkDevice := withDevice_shaped hs (parkDevice_shaped hs)
  clearFault := withDevice_shaped hs (clearFault_shaped hs)
  readDevice := withDevice_shaped hs fun _ =>
    replied_shaped hs (by simp [deviceReply]) (by simp [deviceReply, countBytes])
  openWindow := cmdOpen_shaped hs
  amendWindow := cmdAmendWindow_shaped hs
  retireWindow := cmdRetireWindow_shaped hs
  readWindow := cmdReadWindow_shaped hs
  publish := ⟨hs.of_eq rfl rfl rfl, by simp [PortLaw, cmdPublish, PortCondition.Lawful]⟩
  discard := cmdDiscard_shaped hs
  probe := cmdProbe_shaped hs
  interceptInfo := cmdInterceptInfo_shaped hs
  verdict := cmdVerdictByte_shaped hs
  setMissPolicy := cmdSetMissPolicy_shaped hs
  setLimits := cmdSetLimits_shaped hs
  setNotifyMask := cmdSetNotifyMask_shaped hs
  readNotify := replied_shaped hs (by simp) (by simp)
  clearNotify := cmdClearNotify_shaped hs
  softReset := cmdSoftReset_shaped hs

end

/-! ## The law -/

theorem takeClaim_port (m : Master) (a : Address) (dir : Direction) (w : Width) (x : DataWord) (s : State) :
    (takeClaim m a dir w x s).port = s.port := by
  unfold takeClaim; simp only; split
  · rfl
  · exact (decideClaim_places ..).port

theorem tickAll_portLaw {s : State} (hs : PortLaw s) : PortLaw (tickAll s) := by
  unfold PortLaw at hs ⊢
  change s.port.condition.tick.Lawful
  cases hc : s.port.condition with
  | executing op t =>
    rw [hc] at hs
    exact tick_left t 2 hs
  | _ => rw [hc] at hs; exact hs

theorem readData_shaped {s : State} (hs : ClaimsAndPortShaped s) : ClaimsAndPortShaped (readData s) := by
  unfold readData; split
  · next b rest hc =>
    have port := hs.port
    rw [PortLaw, hc] at port
    refine ⟨hs.claims.of_eq rfl rfl rfl, ?_⟩
    obtain ⟨_, length⟩ := port
    cases rest with
    | nil => trivial
    | cons b rest => exact ⟨by simp, by simp only [List.length_cons] at length ⊢; omega⟩
  all_goals exact ⟨hs.claims.of_eq rfl rfl rfl, hs.port⟩

theorem completePublish_shaped {s : State} (hs : ClaimsShaped s) : ClaimsAndPortShaped (completePublish s) := by
  have done : ∀ bs t, ClaimsAndPortShaped (reply bs t) → ClaimsAndPortShaped (raise .done (reply bs t)) :=
    fun _ _ h => ⟨h.claims.of_eq rfl rfl rfl, h.port⟩
  unfold completePublish; split
  · exact done _ _ (replied_shaped hs (by simp) (by simp))
  · refine done _ _ (replied_shaped ?_ (by simp) (by simp))
    exact hs.of_eq (by rw [applyPublish]) (by rw [applyPublish]) (by rw [applyPublish])

theorem completeSoftReset_shaped {s : State} (hs : ClaimsShaped s) : ClaimsAndPortShaped (completeSoftReset s) := by
  have claims : (completeSoftReset s).claims = s.claims := (completeSoftReset_samePlaces s).claims
  refine ⟨⟨fun m c h => hs.1 m c ?_, ?_, ?_⟩, ?_⟩
  · rw [claim_def] at h ⊢; rwa [claims] at h
  · rw [completeSoftReset_frame]; simp
  · rw [completeSoftReset_frame]; simp
  · rw [completeSoftReset_frame]; simp [PortLaw, PortCondition.Lawful]

theorem shaped_effects (c : Instr) {s : State} (hs : ClaimsAndPortShaped s) : Effects c ClaimsAndPortShaped s := by
  obtain ⟨claims, port⟩ := hs
  have byte := takeCommandByte_claimsShaped claims
  exact {
    nothing := ⟨claims, port⟩
    arrival := fun m a dir w x _ _ => ⟨takeClaim_claimsShaped claims .., port.of_port (takeClaim_port ..)⟩
    grant := fun _ rest _ _ hm => ⟨grantHead_claimsShaped claims hm rest, port⟩
    completion := fun _ _ _ _ => ⟨complete_claimsShaped claims .., port.of_port (complete_stays ..).1⟩
    tick := ⟨tickAll_claimsShaped claims, tickAll_portLaw port⟩
    wake := fun d level => ⟨endWake_claimsShaped claims d level, port.of_port (endWake_stays ..).1⟩
    idle := fun d => ⟨endIdle_claimsShaped claims d, port.of_port (endIdle_stays ..).1⟩
    hold := fun m cl _ => ⟨(answerClaim_claimsShaped claims m cl.access .holdTimeout 0#32).of_eq rfl rfl rfl,
      port.of_port (answerClaim_port m cl.access .holdTimeout 0#32 s)⟩
    intercept := fun m cl _ => ⟨(answerClaim_claimsShaped claims m cl.access .interceptTimeout 0#32).of_eq rfl rfl rfl,
      port.of_port (answerClaim_port m cl.access .interceptTimeout 0#32 s)⟩
    departure := fun d level => ⟨losePower_claimsShaped claims d level, port.of_port (losePower_stays ..).1⟩
    low := fun _ => ⟨heldInReset_claimsShaped s, trivial⟩
    bus := fun _ => ⟨busReset_claimsShaped claims, port.of_port (by rw [busReset])⟩
    collided := ⟨claims.of_eq rfl rfl rfl, port⟩
    orphaned := ⟨claims.of_eq rfl rfl rfl, port⟩
    misused := ⟨claims.of_eq rfl rfl rfl, port⟩
    unknown := resulted_shaped byte _
    command := runRecord_of (shaped_decoder byte)
    opened := fun _ h => ⟨byte.of_eq rfl rfl rfl, h⟩
    collected := fun code params b h => ⟨claims.of_eq rfl rfl rfl, by simpa [PortLaw, PortCondition.Lawful] using h⟩
    lastByte := runRecord_of (shaped_decoder (claims.of_eq rfl rfl rfl))
    read := readData_shaped ⟨claims, port⟩
    published := completePublish_shaped claims
    rebuilt := completeSoftReset_shaped claims }

/-- While PORN is low a command is passed over, but for the byte that a read shows, or ends the reset (R129, R131). -/
theorem exec_inReset {c : Instr} {s t : State} (hr : s.inReset = true) (h : exec c s = .next t) :
    t = { s.quiet with md := t.md, freeCount := t.freeCount } ∨ ∃ x, t = powerOnState x s.quiet := by
  have passed : ∀ {f : State → State}, event s f = .next t →
      t = { s.quiet with md := t.md, freeCount := t.freeCount } := fun he => by
    rw [event_inReset _ hr] at he
    cases he; rfl
  cases hw : commandBytes c with
  | some w =>
    rw [exec_wholeCommand s hw] at h
    exact Or.inl (passed h)
  | none =>
    cases c <;> simp only [commandBytes, reduceCtorEq] at hw
    case endOfPowerOnReset x y z =>
      rw [exec_endOfPowerOnReset x y z hr] at h
      cases h; exact Or.inr ⟨_, rfl⟩
    case replyByteRead =>
      simp only [exec, execReplyByteRead, hr, if_true, Host.Outcome.next.injEq] at h
      exact Or.inl (h ▸ rfl)
    all_goals
      simp only [exec, execClaimArrival, execGrant, execCompletion, execTick, execWakeTimerExpiry,
        execIdleTimerExpiry, execHoldTimerExpiry, execInterceptTimerExpiry, execDepartureFromConformity,
        execPowerOnReset, execBusReset, execCommandByte, execUnknownCommand, execParameterByte,
        execPublishCompletion, execSoftResetCompletion] at h
      exact Or.inl (passed h)

theorem exec_keeps_shaped {c : Instr} {s t : State} (hs : ClaimsAndPortShaped s) (h : exec c s = .next t) :
    ClaimsAndPortShaped t := by
  have quiet : ClaimsAndPortShaped s.quiet := ⟨hs.claims.of_eq rfl rfl rfl, hs.port⟩
  cases hr : s.inReset with
  | false => exact exec_of_effects (shaped_effects c quiet) hr h
  | true =>
    rcases exec_inReset hr h with ht | ⟨x, rfl⟩
    · rw [ht]; exact ⟨quiet.claims.of_eq rfl rfl rfl, quiet.port⟩
    · exact ⟨powerOnState_claimsShaped x _, trivial⟩

/-- Settles O57: the limits that load the timers are part of the law, and every reply is at most 20 bytes long. -/
theorem stepKeepsClaimsAndPortShaped : Obligations.StepKeepsClaimsAndPortShaped := by
  intro s t hc hp h
  unfold step at h
  split at h
  · cases h; exact ⟨hc, hp⟩
  · next rest _ =>
    have hs : ClaimsAndPortShaped { s with pending := rest } := ⟨hc.of_eq rfl rfl rfl, hp⟩
    obtain ⟨claims, port⟩ := exec_keeps_shaped hs h
    exact ⟨claims, port⟩

end Sys2Proof.Machine
end

section
/-! PROOF. The claim path: arrivals (O10, O12, O13), the residency step (O14), the grant (O15), the probe (O44) and the
events that cannot happen (O9). -/

namespace Sys2Proof.Machine

/-! ## Events that cannot happen -/

/-- An event without an effect in a state leaves it as it is, but for the outputs of the earlier event. -/
theorem event_nothing {s : State} {f : State → State} (h : f s.quiet = s.quiet) : event s f = .next s.quiet := by
  unfold event
  rw [h, ite_self]

/-- Settles O9: in each case the arm's guard fails. -/
theorem eventsThatCannotHappenChangeNothing : Obligations.EventsThatCannotHappenChangeNothing := by
  intro s
  refine ⟨fun m a dir w x hm => ?_, fun h => ?_, fun r h => ?_, fun d x h => ?_, fun d h => ?_, fun m h => ⟨?_, ?_⟩,
    fun h => ⟨?_, ?_⟩, fun d h => ?_⟩
  all_goals
    simp only [exec, execClaimArrival, execGrant, execCompletion, execWakeTimerExpiry, execIdleTimerExpiry,
      execHoldTimerExpiry, execInterceptTimerExpiry, execPublishCompletion, execSoftResetCompletion,
      execDepartureFromConformity]
    refine event_nothing ?_
  · obtain ⟨c, hc⟩ := Option.isSome_iff_exists.mp hm
    rw [quiet_claim, hc]
  · split
    · next hcy hrl =>
      rw [quiet_cycle] at hcy
      rw [quiet_readyList] at hrl
      rcases h with h | h
      · rw [hcy] at h; cases h
      · rw [hrl] at h; cases h
    all_goals rfl
  · rw [answeredCycle_none (s := s.quiet) h]
  · exact if_neg fun e => by rw [quiet_device, h] at e; exact absurd e.2 (by simp)
  · exact if_neg fun e => by rw [quiet_device, h] at e; exact absurd e.2 (by simp)
  · split
    · next c hc => exact if_neg fun e => by rw [h c hc] at e; exact absurd e.2 (by simp)
    · rfl
  · split
    · next c hc => exact if_neg fun e => by rw [h c hc] at e; exact absurd e.2 (by simp)
    · rfl
  · split
    · next t hc => exact if_neg fun e => by rw [h _ t hc] at e; cases e
    all_goals rfl
  · split
    · next t hc => exact if_neg fun e => by rw [h _ t hc] at e; cases e
    all_goals rfl
  · split
    · rfl
    · next level hl =>
      refine if_neg fun ⟨hd, _⟩ => ?_
      rw [quiet_device] at hl hd
      rcases h with hi | ⟨hon, hpark⟩
      · rw [hi] at hl; cases hl
      · exact hd.elim hon hpark

/-! ## The grant (R40, R41) -/

/-- Settles O15: the grant is `grantHead`, and `cycleOf` is the cycle that R41 gives. -/
theorem grantTakesTheOldestReadyClaim : Obligations.GrantTakesTheOldestReadyClaim := by
  intro s m rest c h hcy hr hm
  simp only [exec, execGrant, event_running _ h, quiet_cycle, quiet_readyList, quiet_claim, hcy, hr, hm]
  rfl

/-! ## What the two ends decide (R23, R31) -/

theorem decideEnds_overflow {s : State} {a : Address} {w : Width} (h : 0xFFFFFF < a.toNat + w.bytes - 1) :
    decideEnds s a w = .straddle := by
  rw [decideEnds, if_pos h]

/-- Two ends inside the space that decide differently straddle, also where one of them misses. -/
theorem decideEnds_differ {s : State} {a : Address} {w : Width} (h : a.toNat + w.bytes - 1 ≤ 0xFFFFFF)
    (hd : lookup s a ≠ lookup s (a + BitVec.ofNat 24 (w.bytes - 1))) : decideEnds s a w = .straddle := by
  rw [decideEnds, if_neg (by omega)]
  cases h1 : lookup s a with
  | none =>
    cases h2 : lookup s (a + BitVec.ofNat 24 (w.bytes - 1)) with
    | none => exact absurd (h1.trans h2.symm) hd
    | some k => rfl
  | some n =>
    cases h2 : lookup s (a + BitVec.ofNat 24 (w.bytes - 1)) with
    | none => rfl
    | some k => exact if_neg fun e => hd (by rw [h1, h2, e])

theorem decideEnds_none {s : State} {a : Address} {w : Width} (h : a.toNat + w.bytes - 1 ≤ 0xFFFFFF)
    (h1 : lookup s a = none) (h2 : lookup s (a + BitVec.ofNat 24 (w.bytes - 1)) = none) :
    decideEnds s a w = if s.missPolicy = .abort then .miss else .fallback := by
  rw [decideEnds, if_neg (by omega), h1, h2]
  cases s.missPolicy <;> rfl

/-! ## Arrivals (R27, R30 to R36) -/

section
variable {s : State} {m : Master} {a : Address} {dir : Direction} {w : Width} {x : DataWord} {n : SlotId}

theorem decideClaim_straddle (h : decideEnds s a w = .straddle) :
    decideClaim m a dir w x s = giveAnswer m .straddle 0#32 s := by
  rw [decideClaim, h]

theorem decideClaim_miss (h : decideEnds s a w = .miss) : decideClaim m a dir w x s = giveAnswer m .miss 0#32 s := by
  rw [decideClaim, h]

theorem decideClaim_fallback (h : decideEnds s a w = .fallback) :
    decideClaim m a dir w x s = residencyStep m (fallbackAccess s a dir w x) s := by
  rw [decideClaim, h]

theorem decideClaim_denied (h : decideEnds s a w = .window n) (hg : (s.slot n).grants m dir = false) :
    decideClaim m a dir w x s = answerClaim m (windowAccess s n a dir w x) .denied 0#32 (raiseBound n s) := by
  simp only [decideClaim, h, hg, if_true]

theorem decideClaim_caught (h : decideEnds s a w = .window n) (hg : (s.slot n).grants m dir = true)
    (hw : (s.slot n).watch.catches dir = true) :
    decideClaim m a dir w x s = enterIntercept m (windowAccess s n a dir w x) (raiseBound n s) := by
  simp only [decideClaim, h, hg, hw, Bool.true_eq_false, if_false, if_true]

theorem decideClaim_bound (h : decideEnds s a w = .window n) (hg : (s.slot n).grants m dir = true)
    (hw : (s.slot n).watch.catches dir = false) :
    decideClaim m a dir w x s = residencyStep m (windowAccess s n a dir w x) (raiseBound n s) := by
  simp only [decideClaim, h, hg, hw, Bool.true_eq_false, Bool.false_eq_true, if_false]

end

theorem catches_iff (v : Watch) (dir : Direction) :
    v.catches dir = true ↔ v = .all ∨ (v = .writes ∧ dir = .write) := by
  cases v <;> cases dir <;> simp [Watch.catches]

theorem not_catches_iff (v : Watch) (dir : Direction) :
    v.catches dir = false ↔ v = .off ∨ (v = .writes ∧ dir = .read) := by
  cases v <;> cases dir <;> simp [Watch.catches]

/-- The claim of a window that denies it is bound and answered in one event, which leaves the directory as it was. -/
theorem answerClaim_raiseBound_slots (s : State) (m : Master) {a : Access} {n : SlotId} (r : Reason) (x : DataWord)
    (hb : a.binding.slotId = some n) (hr : r.touches = false) (hv : (s.slot n).inView = true) :
    (answerClaim m a r x (raiseBound n s)).slots = s.slots := by
  have live : (s.slot n).state ≠ .draining := by
    rw [inView_iff] at hv
    rcases hv with h | h <;> rw [h] <;> simp
  refine vector_ext_fin fun k => ?_
  have slot := answerClaim_slot m a r x (raiseBound n s) k
  rw [slotAfterAnswer, hb] at slot
  rw [← slot_def, ← slot_def, slot, raiseBound_slot]
  by_cases hk : k = n
  · subst hk
    simp [Slot.answered, hr, live]
  · rw [if_neg (by simpa [eq_comm] using hk), if_neg hk]

theorem answerClaim_raiseBound_devices (s : State) {m : Master} {a : Access} {n : SlotId} (r : Reason) (x : DataWord)
    (hb : a.binding.slotId = some n) (hh : m ∉ s.holdList) (hv : (s.slot n).inView = true) :
    (answerClaim m a r x (raiseBound n s)).devices = s.devices := by
  have frees : ∀ d, freesSlotOf (raiseBound n s) a.binding d = false := fun d => by
    rw [inView_iff] at hv
    unfold freesSlotOf
    rw [hb]
    rcases hv with h | h <;> simp [h]
  refine vector_ext_fin fun d => ?_
  have device := answerClaim_nowhere_device a r x (s := raiseBound n s) hh d
  rw [frees] at device
  rw [← device_def, ← device_def, device]
  rfl

/-- A claim that its window denies leaves no trace but its answer (R12, R35). -/
theorem answerClaim_raiseBound {s : State} {m : Master} {a : Access} {n : SlotId} (r : Reason) (x : DataWord)
    (hm : m ∉ inFlight s) (hb : a.binding.slotId = some n) (hr : r.touches = false)
    (hv : (s.slot n).inView = true) : answerClaim m a r x (raiseBound n s) = giveAnswer m r x s := by
  obtain ⟨mi, mh, mr, mc⟩ := not_mem_inFlight hm
  rw [answerClaim_nowhere (s := raiseBound n s) a r x mi mh mr mc, answerClaim_raiseBound_slots s m r x hb hr hv,
    answerClaim_raiseBound_devices s r x hb mh hv]
  rfl

/-- Settles O10: outside a soft reset `decideEnds` says which answer is given, and a denied claim leaves its window's
count as it was. -/
theorem claimsAnsweredAtArrival : Obligations.ClaimsAnsweredAtArrival := by
  intro s m a dir cwid x h hm hp answered last
  have empty : s.claims.set m none = s.claims := claims_set_none hm
  have given : ∀ r : Reason, Host.Outcome.next (φ := Fault) (ρ := Refusal)
      (giveAnswer m r 0#32 (s.quiet.setMarker m false)) = answered r := fun r => by
    simp only [giveAnswer, setMarker_claims, quiet_claims, empty]
    rfl
  have ends : ∀ b, lookup (s.quiet.setMarker m false) b = lookup s b := fun b => by simp
  refine ⟨fun hs => ?_, fun hs ho => ?_, fun hs hi hd => ?_, fun hs hi h1 h2 hmp => ?_, fun n hs hi h1 h2 hg => ?_⟩
  · have hq : softResetting s.quiet = true := hs
    rw [exec_claimArrival a dir cwid x h hm, takeClaim, hq]
    exact given _
  all_goals rw [exec_claimArrival_decided a dir cwid x h hm hs]
  · rw [decideClaim_straddle (decideEnds_overflow ho), given]
  · rw [decideClaim_straddle (decideEnds_differ hi (by rw [ends, ends]; exact hd)), given]
  · have policy : (s.quiet.setMarker m false).missPolicy = .abort := hmp
    rw [decideClaim_miss, given]
    rw [decideEnds_none hi (by rw [ends, h1]) (by rw [ends]; exact h2), if_pos policy]
  · have window : decideEnds (s.quiet.setMarker m false) a (widthOfCwid cwid) = .window n :=
      decideEnds_window hi (by rw [ends, h1]) (by rw [ends]; exact h2)
    have view : ((s.quiet.setMarker m false).slot n).inView = true := decideEnds_inView window
    have nowhere : m ∉ inFlight (s.quiet.setMarker m false) := hp.nowhere hm
    rw [decideClaim_denied window ((grants_eq ..).trans hg), answerClaim_raiseBound .denied 0#32 nowhere rfl rfl view,
      given]

/-- Settles O12: the claim is decided for the window, granted and caught. -/
theorem watchedClaimsEnterTheInterceptList : Obligations.WatchedClaimsEnterTheInterceptList := by
  intro s m a dir cwid x n h hm hs hi h1 h2 hg hw
  have window : decideEnds (s.quiet.setMarker m false) a (widthOfCwid cwid) = .window n :=
    decideEnds_window hi (by simpa using h1) (by simpa using h2)
  rw [exec_claimArrival_decided a dir cwid x h hm hs,
    decideClaim_caught window ((grants_eq ..).trans hg) ((catches_iff ..).mpr hw), windowAccess_eq]
  rfl

/-- Settles O13: the claim is decided for the window and not caught, or for the fallback. -/
theorem boundClaimsMakeTheirResidencyStep : Obligations.BoundClaimsMakeTheirResidencyStep := by
  intro s m a dir cwid x h hm hs hi last access
  refine ⟨fun n h1 h2 hg hw => ?_, fun h1 h2 hp => ?_⟩ <;> rw [exec_claimArrival_decided a dir cwid x h hm hs]
  · have window : decideEnds (s.quiet.setMarker m false) a (widthOfCwid cwid) = .window n :=
      decideEnds_window hi (by simpa using h1) (by simpa using h2)
    rw [decideClaim_bound window ((grants_eq ..).trans hg) ((not_catches_iff ..).mpr hw), windowAccess_eq, forward_eq]
    rfl
  · have policy : (s.quiet.setMarker m false).missPolicy = .fallback := hp
    rw [decideClaim_fallback]
    · cases dir <;> rfl
    · rw [decideEnds_none hi (by simpa using h1) (by simpa using h2), policy]; rfl

/-! ## The residency step (R37) -/

/-- Settles O14: the lemmas of the residency step, one for each residency. -/
theorem residencyStepFollowsTheDevice : Obligations.ResidencyStepFollowsTheDevice := by
  intro s m a mi mh mr mc r held answered
  have holds : ∀ r', enterHold m a (s.setDevice a.device r') = { s with
      claims := s.claims.set m (some
        { access := a, phase := .held, timer := Timer.load s.holdLimit, verdictData := none })
      holdList := s.holdList ++ [m]
      devices := s.devices.set a.device { r' with heldCount := r'.heldCount + 1 } } :=
    fun r' => enterHold_setDevice s m a r'
  have gives : ∀ reason : Reason, answered reason (answerClaim m a reason 0#32 s) := fun reason =>
    ⟨answerClaim_nowhere a reason 0#32 mi mh mr mc, answerClaim_slot m a reason 0#32 s,
      answerClaim_nowhere_device a reason 0#32 mh⟩
  refine ⟨fun h => residencyStep_on h, fun h => residencyStep_hold h, fun h hw => ?_, fun h hw => ?_, fun h => ?_⟩
  · rw [residencyStep_wake h hw, startWake, holds]
  · rw [residencyStep_asleep h hw]; exact gives _
  · rw [residencyStep_fault h]; exact gives _

/-! ## The probe (R170) -/

theorem exec_probe {s : State} (bm bd bw : Byte) (a : Address) (h : s.inReset = false) (hb : s.port.busy = false) :
    exec (.probe bm bd bw a) s = .next (cmdProbe bm bd bw a (takeCommandByte s.quiet)) := by
  simp only [exec, execProbe, event_sendWhole _ _ h hb]

/-- The width that a width byte in range names. -/
theorem readWidth_some {b : Byte} (h : b = 1#8 ∨ b = 2#8 ∨ b = 4#8) : ∃ w, readWidth b = some w ∧ w.bytes = b.toNat := by
  rcases h with rfl | rfl | rfl
  · exact ⟨.one, rfl, rfl⟩
  · exact ⟨.two, rfl, rfl⟩
  · exact ⟨.four, rfl, rfl⟩

theorem readWidth_none {b : Byte} (h : b ≠ 1#8 ∧ b ≠ 2#8 ∧ b ≠ 4#8) : readWidth b = none := by
  unfold readWidth
  rw [if_neg h.1, if_neg h.2.1, if_neg h.2.2]

/-- A parameter of PROBE out of range (R170, check 1). -/
theorem cmdProbe_badValue {bm bd bw : Byte} (a : Address) (s : State)
    (h : 4 ≤ bm.toNat ∨ 2 ≤ bd.toNat ∨ (bw ≠ 1#8 ∧ bw ≠ 2#8 ∧ bw ≠ 4#8)) :
    cmdProbe bm bd bw a s = reply [0x02#8] s := by
  unfold cmdProbe; split
  · next hm hd hw =>
    rw [readFin_eq_some] at hm
    rw [readDirection_eq, Option.ite_none_right_eq_some] at hd
    rcases h with h | h | h
    · omega
    · omega
    · rw [readWidth_none h] at hw; cases hw
  · rfl

/-- PROBE with its parameters in range. -/
theorem cmdProbe_inRange {bm bd bw : Byte} {m : Master} {w : Width} (a : Address) (s : State) (hm : bm.toNat = m.val)
    (hd : bd.toNat < 2) (hw : readWidth bw = some w) :
    cmdProbe bm bd bw a s = reply (probeReply s m (if bd.toNat = 1 then .write else .read) w a) s := by
  rw [cmdProbe, readFin_some hm, readDirection_eq, if_pos hd, hw]

/-- The outcome for a claim that wins a window: its grant bit, then the watch setting (R35, R36). -/
theorem probeWindow_toByte (v : Slot) (m : Master) {b : Byte} (hb : b.toNat < 2) :
    (probeWindow v m (if b.toNat = 1 then .write else .read)).toByte =
      if v.permissions.getLsbD (2 * m.val + b.toNat) = false then 0x04#8
      else if v.watch = .all ∨ (v.watch = .writes ∧ b.toNat = 1) then 0x01#8 else 0x00#8 := by
  have bit : v.grants m (if b.toNat = 1 then .write else .read) = v.permissions.getLsbD (2 * m.val + b.toNat) := by
    rw [grants_eq]
    by_cases h : b.toNat = 1
    · simp [h]
    · have : b.toNat = 0 := by omega
      simp [this]
  have caught : v.watch.catches (if b.toNat = 1 then .write else .read) = true ↔
      v.watch = .all ∨ (v.watch = .writes ∧ b.toNat = 1) := by
    rw [catches_iff]
    by_cases h : b.toNat = 1 <;> simp [h]
  unfold probeWindow
  rw [bit]
  by_cases hg : v.permissions.getLsbD (2 * m.val + b.toNat) = false
  · rw [if_pos hg, if_pos hg]; rfl
  · rw [if_neg hg, if_neg hg]
    by_cases hw : v.watch = .all ∨ (v.watch = .writes ∧ b.toNat = 1)
    · rw [if_pos hw, if_pos (caught.mpr hw)]; rfl
    · rw [if_neg hw, if_neg (mt caught.mp hw)]; rfl

/-- Settles O44: the probe asks `decideEnds`, the grant bit and the watch setting, as an arriving claim does. -/
theorem probeReportsTheDecision : Obligations.ProbeReportsTheDecision := by
  intro s bm bd bw a h hb s₀
  have slot : ∀ k, s₀.slot k = s.slot k := takeCommandByte_slot _
  have device : ∀ d, s₀.device d = s.device d := takeCommandByte_device _
  have ends : ∀ b, lookup s₀ b = lookup s b := fun b => lookup_congr slot b
  have policy : s₀.missPolicy = s.missPolicy := takeCommandByte_missPolicy _
  have fallback : s₀.fallbackDevice = s.fallbackDevice := takeCommandByte_fallbackDevice _
  rw [exec_probe bm bd bw a h hb]
  refine ⟨fun hr => by rw [cmdProbe_badValue a _ hr], fun m hm hd hw => ?_⟩
  obtain ⟨w, hw, hbytes⟩ := readWidth_some hw
  rw [cmdProbe_inRange a _ hm hd hw, ← hbytes, probeReply]
  change _ ∧ _ ∧ _ ∧ _
  refine ⟨fun hs => ?_, fun hi h1 h2 hp => ?_, fun hi h1 h2 hp => ?_, fun n hi h1 h2 => ?_⟩
  · have straddle : decideEnds s₀ a w = .straddle := by
      by_cases hi : a.toNat + w.bytes - 1 ≤ 0xFFFFFF
      · exact decideEnds_differ hi (by rw [ends, ends]; exact hs.resolve_left (not_not.mpr hi))
      · exact decideEnds_overflow (by omega)
    rw [straddle]; rfl
  · rw [decideEnds_none hi (by rw [ends]; exact h1) (by rw [ends]; exact h2), policy, hp]; rfl
  · rw [decideEnds_none hi (by rw [ends]; exact h1) (by rw [ends]; exact h2), policy, hp, fallback, device]; rfl
  · rw [decideEnds_window hi (by rw [ends]; exact h1) (by rw [ends]; exact h2)]
    simp only
    rw [takeCommandByte_slot, takeCommandByte_device, quiet_slot, quiet_device, probeWindow_toByte _ m hd]
    rfl

end Sys2Proof.Machine
end

section
/-! PROOF. The events that end several claims or a park: the last completion of a PARKING device (O17), the expiry of a
wake timer (O21), the departure from conformity (O23) and the start of a soft reset (O7). -/

namespace Sys2Proof.Machine

/-! ## The end of a park (R43, R69) -/

theorem endPark_slot (d : Device) (s : State) (n : SlotId) : (endPark d s).slot n = s.slot n := by
  rw [endPark_eq]; rfl

theorem endPark_device_other {d e : Device} (s : State) (h : e ≠ d) : (endPark d s).device e = s.device e := by
  unfold endPark; split
  · split
    · rw [powerOff_device, if_neg h]
    · rw [startWake_device, if_neg h]
      exact (powerOff_device s d e).trans (if_neg h)
  · rfl

theorem reloadIdle_not_on {d : Device} {s : State} (h : (s.device d).residency ≠ .on) : reloadIdle d s = s := by
  unfold reloadIdle; split
  · next e => exact absurd e h
  all_goals rfl

/-- The completion of a cycle whose device is PARKING reloads no idle timer. -/
theorem complete_parking {s : State} (m : Master) {a : Access} (dd : DataWord)
    (h : (s.device a.device).residency = .parking) : complete m a dd s =
      endPark a.device (answerClaim m a .done (answerData a.direction a.width dd) s) := by
  rw [complete, reloadIdle_not_on]
  rw [answerClaim_device]
  exact fun e => by rw [deviceAfterAnswer, h] at e; cases e

theorem boundTo_congr {s t : State} {m : Master} (h : t.claim m = s.claim m) (d : Device) :
    boundTo t d m = boundTo s d m := by
  unfold boundTo; rw [h]

/-- Once the ACTIVE claim is answered, the device's work is the ready claims bound to it. -/
theorem answerClaim_active_hasWork {s : State} (h : PlacesLaw s) {cy : DeviceCycle} (hcy : s.cycle = some cy)
    (a : Access) (r : Reason) (x : DataWord) (d : Device) :
    hasWork (answerClaim cy.master a r x s) d = s.readyList.any (boundTo s d) := by
  have frame := answerClaim_active h hcy a r x
  have idle : activeMaster (answerClaim cy.master a r x s) = [] := by rw [frame]; rfl
  have ready : (answerClaim cy.master a r x s).readyList = s.readyList := by rw [frame]
  have others : ∀ m ∈ s.readyList, boundTo (answerClaim cy.master a r x s) d m = boundTo s d m := fun m hm => by
    refine boundTo_congr ?_ d
    rw [answerClaim_claim, if_neg]
    rintro rfl
    exact (h.active_in_no_list hcy).2.2 hm
  rw [hasWork, idle, ready, List.nil_append, Bool.eq_iff_iff, List.any_eq_true, List.any_eq_true]
  exact exists_congr fun m => and_congr_right fun hm => by rw [others m hm]

/-- Settles O17: the answer of the ACTIVE claim, and then one of the three cases of `endPark`. -/
theorem lastCompletionEndsThePark : Obligations.LastCompletionEndsThePark := by
  intro s dd cy c h hp hcy hm hpark d
  have places : PlacesLaw s.quiet := hp
  have hold : cy.master ∉ s.quiet.holdList := (places.active_in_no_list hcy).2.1
  have frame := answerClaim_active places hcy c.access .done (answerData c.access.direction c.access.width dd)
  have work := answerClaim_active_hasWork places hcy c.access .done
    (answerData c.access.direction c.access.width dd) d
  have slot := answerClaim_slot cy.master c.access .done (answerData c.access.direction c.access.width dd) s.quiet
  have device := answerClaim_nowhere_device (s := s.quiet) c.access .done
    (answerData c.access.direction c.access.width dd) hold
  have run := exec_completion dd h hcy hm
  rw [complete_parking (s := s.quiet) cy.master dd hpark] at run
  generalize answerClaim cy.master c.access .done _ s.quiet = u at frame work slot device run
  have parking : (u.device d).residency = .parking := by rw [device]; exact hpark
  have quiet : u.penPulses = [] := by rw [frame]; rfl
  refine ⟨_, answerData c.access.direction c.access.width dd, run, ?_, rfl, fun n => ?_, fun e he => ?_, fun hmore => ?_,
    fun hmore h0 => ?_, fun hmore h0 => ?_⟩
  · rw [endPark_eq]
    generalize (endPark c.access.device u).devices = devices
    generalize (endPark c.access.device u).penPulses = pulses
    rw [frame]; rfl
  · rw [endPark_slot]; exact slot n
  · rw [endPark_device_other _ he]; exact device e
  · rw [endPark_goes_on (work.trans hmore)]
    exact ⟨device d, quiet⟩
  · have held : (u.device d).heldCount = 0 := by rw [device]; exact h0
    rw [endPark_off parking (work.trans hmore) held]
    refine ⟨quiet, ?_⟩
    rw [powerOff_device, if_pos rfl, device]; rfl
  · have held : (u.device d).heldCount ≠ 0 := by rw [device]; exact h0
    rw [endPark_again parking (work.trans hmore) held]
    refine ⟨by rw [quiet]; rfl, ?_⟩
    refine (startWake_device u d d).trans ?_
    rw [if_pos rfl, device]; rfl

/-! ## Lists without the claims of a device -/

/-- Without the claims of a device among a longer list, a list keeps its claims of other devices. -/
theorem filter_notMem_filter {l L : List Master} {p : Master → Bool} (h : ∀ x ∈ l, x ∈ L) :
    (l.filter fun x => decide (x ∉ L.filter p)) = l.filter fun x => !p x := by
  refine List.filter_congr fun x hx => ?_
  cases hp : p x <;> simp [h x hx, hp]

theorem filter_notMem_disjoint {l L : List Master} {p : Master → Bool} (h : ∀ x ∈ l, x ∉ L) :
    (l.filter fun x => decide (x ∉ L.filter p)) = l := by
  rw [List.filter_eq_self]
  intro x hx
  simp [h x hx]

theorem filter_notMem_all {l L : List Master} (h : ∀ x ∈ l, x ∈ L) : (l.filter fun x => decide (x ∉ L)) = [] := by
  rw [List.filter_eq_nil_iff]
  intro x hx
  simp [h x hx]

/-- Under the law of places no master stands in two places. -/
theorem PlacesLaw.disjoint {s : State} (h : PlacesLaw s) :
    (∀ m ∈ s.interceptList, m ∉ s.holdList ∧ m ∉ s.readyList ∧ m ∉ activeMaster s) ∧
      (∀ m ∈ s.readyList, m ∉ s.holdList) ∧ (∀ m ∈ activeMaster s, m ∉ s.readyList ∧ m ∉ s.holdList) := by
  obtain ⟨_, _, _, hI, hH, hR, hA, _⟩ := h
  have hB : ∀ m, m ∈ activeMaster s ↔ s.phaseOf m = some .active := fun m => (mem_activeMaster s m).trans (hA m).symm
  refine ⟨fun m h => ?_, fun m h => ?_, fun m h => ?_⟩
  · rw [hI] at h
    rw [hH, hR, hB, h]; simp
  · rw [hR] at h
    rw [hH, h]; simp
  · rw [hB] at h
    rw [hH, hR, h]; simp

/-! ## A device's fault (R64, R71) -/

theorem boundTo_iff_deviceOf (s : State) (d : Device) (m : Master) : boundTo s d m = true ↔ s.deviceOf m = some d := by
  rw [boundTo_iff, State.deviceOf, Option.map_eq_some_iff]

theorem allInFlight_filter (s : State) (d : Device) (L : List Master) : AllInFlight s (L.filter (boundTo s d)) :=
  fun m hm => by
    obtain ⟨c, hc, _⟩ := (boundTo_iff s d m).mp (List.mem_filter.mp hm).2
    exact ⟨c, hc⟩

section
variable {s : State} {d : Device} {cause : FaultCause} {L : List Master}

theorem enterFault_claim (d : Device) (cause : FaultCause) (ms : List Master) (s : State) (k : Master) :
    (enterFault d cause ms s).claim k = if k ∈ ms then none else s.claim k :=
  answerAll_claim ms .deviceFault s k

theorem enterFault_slot (hn : L.Nodup) (n : SlotId) :
    (enterFault d cause (L.filter (boundTo s d)) s).slot n = slotAfterAnswers s (L.filter (boundTo s d)) n :=
  answerAll_slot _ .deviceFault s n rfl (hn.filter _) (allInFlight_filter s d L)

theorem enterFault_references (d : Device) (cause : FaultCause) (ms : List Master) (s : State) (e : Device) :
    references (enterFault d cause ms s) e = references (answerAll ms .deviceFault s) e :=
  references_congr e (fun _ => rfl) rfl rfl

theorem enterFault_device (d : Device) (cause : FaultCause) (ms : List Master) (s : State) (e : Device) :
    (enterFault d cause ms s).device e = if e = d then { (answerAll ms .deviceFault s).device d with
      residency := .fault, faultCause := cause, pen := false, wakeTimer := none, idleTimer := none, heldCount := 0 }
      else (answerAll ms .deviceFault s).device e :=
  device_setDevice (answerAll ms .deviceFault s) d e _

theorem enterFault_device_self (hl : ReferenceLaw s) (hn : L.Nodup) :
    (enterFault d cause (L.filter (boundTo s d)) s).device d = { s.device d with
      residency := .fault, faultCause := cause, pen := false, wakeTimer := none, idleTimer := none, heldCount := 0
      refCount := references (enterFault d cause (L.filter (boundTo s d)) s) d } := by
  rw [enterFault_device, if_pos rfl, enterFault_references,
    answerAll_device_lawful _ .deviceFault d hl (hn.filter _) (allInFlight_filter s d L)]

/-- The claims answered are those of the device, so no other held count falls. -/
theorem enterFault_device_other (hl : ReferenceLaw s) (hn : L.Nodup) {e : Device} (he : e ≠ d) :
    (enterFault d cause (L.filter (boundTo s d)) s).device e = { s.device e with
      refCount := references (enterFault d cause (L.filter (boundTo s d)) s) e } := by
  have none : ((L.filter (boundTo s d)).countP fun m => decide (m ∈ s.holdList ∧ s.deviceOf m = some e)) = 0 := by
    rw [List.countP_eq_zero]
    intro m hm
    have bound := (boundTo_iff_deviceOf s d m).mp (List.mem_filter.mp hm).2
    rw [bound]
    simp [he.symm]
  rw [enterFault_device, if_neg he, enterFault_references,
    answerAll_device_lawful _ .deviceFault e hl (hn.filter _) (allInFlight_filter s d L), none]
  rfl

end

/-! ## The expiry of a wake timer (R63, R64) -/

theorem samplePgd_inConformity (d : Device) (level : Bool) (s : State) :
    inConformity (samplePgd d level s) d = (s.device d).sense.conforms level := by
  have sampled : (samplePgd d level s).pgdLevel d = level :=
    (vector_set_getElem s.pgd d d level).trans (if_pos rfl)
  rw [inConformity, sampled]; rfl

theorem conforms_iff (x : Sense) (level : Bool) : x.conforms level = true ↔
    x = .ignore ∨ (x = .high ∧ level = true) ∨ (x = .low ∧ level = false) := by
  cases x <;> simp [Sense.conforms]

theorem endWake_conforms {s : State} {d : Device} {level : Bool} (h : (s.device d).sense.conforms level = true) :
    endWake d level s = enterOn d (samplePgd d level s) :=
  if_pos ((samplePgd_inConformity d level s).trans h)

theorem endWake_fails {s : State} {d : Device} {level : Bool} (h : (s.device d).sense.conforms level ≠ true) :
    endWake d level s = enterFault d .noPowerGood (s.holdList.filter (boundTo s d)) (samplePgd d level s) :=
  if_neg (by rw [samplePgd_inConformity]; exact h)

theorem exec_wakeTimerExpiry {s : State} {d : Device} (level : Bool) (h : s.inReset = false)
    (hw : (s.device d).residency = .waking) (ht : timerDue (s.device d).wakeTimer = true) :
    exec (.wakeTimerExpiry d level) s = .next (endWake d level s.quiet) := by
  rw [exec, execWakeTimerExpiry, event_running _ h]
  exact congrArg Host.Outcome.next (if_pos ⟨hw, ht⟩)

/-- Settles O21: in conformity the device enters ON, out of conformity it enters FAULT with its held claims. -/
theorem wakeExpiryDecidesOnOrFault : Obligations.WakeExpiryDecidesOnOrFault := by
  intro s d level h hp hl hw ht r good ms
  have conform : r.sense.conforms level = true ↔ good := conforms_iff r.sense level
  have hold : s.holdList.Nodup := hp.2.1
  rw [exec_wakeTimerExpiry level h hw ht]
  refine ⟨_, rfl, ?_⟩
  by_cases hg : good
  · have runs : endWake d level s.quiet = enterOn d (samplePgd d level s.quiet) := endWake_conforms (conform.mpr hg)
    rw [runs]
    have frame := enterOn_eq d (samplePgd d level s.quiet)
    have left : (enterOn d (samplePgd d level s.quiet)).holdList = s.holdList.filter fun m => !boundTo s d m := by
      rw [frame]; rfl
    refine ⟨left, fun _ => ⟨by rw [left]; exact frame, fun m => ?_⟩, fun hb => absurd hg hb⟩
    rw [enterOn_claim]
    simp only [ms, List.mem_filter]
    rfl
  · have fails : endWake d level s.quiet = enterFault d .noPowerGood ms (samplePgd d level s.quiet) :=
      endWake_fails (mt conform.mp hg)
    rw [fails]
    have law : ReferenceLaw (samplePgd d level s.quiet) := hl
    have claim := enterFault_claim d .noPowerGood ms (samplePgd d level s.quiet)
    have slot := enterFault_slot (s := samplePgd d level s.quiet) (d := d) (cause := .noPowerGood) hold
    have other := fun e => enterFault_device_other (s := samplePgd d level s.quiet) (d := d) (cause := .noPowerGood)
      law hold (e := e)
    have self := enterFault_device_self (s := samplePgd d level s.quiet) (d := d) (cause := .noPowerGood) law hold
    have frame := enterFault_frame (samplePgd d level s.quiet) d .noPowerGood ms (hold.filter _)
      (allInFlight_filter (samplePgd d level s.quiet) d s.holdList)
    obtain ⟨inI, inR, inA⟩ := hp.disjoint
    have caught : ((samplePgd d level s.quiet).interceptList.filter fun x => decide (x ∉ ms)) = s.interceptList :=
      filter_notMem_disjoint fun m hm => (inI m hm).1
    have held : ((samplePgd d level s.quiet).holdList.filter fun x => decide (x ∉ ms)) =
        s.holdList.filter fun m => !boundTo s d m := filter_notMem_filter fun _ => id
    have ready : ((samplePgd d level s.quiet).readyList.filter fun x => decide (x ∉ ms)) = s.readyList :=
      filter_notMem_disjoint inR
    have bus : ((samplePgd d level s.quiet).cycle.filter fun c => decide (c.master ∉ ms)) = s.cycle := by
      change (s.cycle.filter fun c => decide (c.master ∉ ms)) = s.cycle
      cases hcy : s.cycle with
      | none => rfl
      | some cy =>
        have active : cy.master ∉ s.holdList := (inA cy.master (by rw [activeMaster, hcy]; simp)).2
        simp [ms, active]
    rw [caught, held, ready, bus] at frame
    have left : (enterFault d .noPowerGood ms (samplePgd d level s.quiet)).holdList =
      s.holdList.filter fun m => !boundTo s d m := by rw [frame]
    exact ⟨left, fun hb => absurd hb hg, fun _ => ⟨by rw [left]; exact frame, claim, slot, other, self⟩⟩

/-! ## The departure from conformity (R45, R46, R71) -/

theorem departing_nodup {s : State} (h : PlacesLaw s) :
    (activeMaster s ++ s.readyList ++ s.holdList).Nodup := by
  obtain ⟨_, inR, inA⟩ := h.disjoint
  obtain ⟨_, hold, ready, _⟩ := h
  rw [List.nodup_append', List.nodup_append']
  refine ⟨⟨activeMaster_nodup s, ready, fun m ha hr => (inA m ha).1 hr⟩, hold, fun m hm hh => ?_⟩
  rcases List.mem_append.mp hm with ha | hr
  · exact (inA m ha).2 hh
  · exact inR m hr hh

theorem badLevel_eq {x : Sense} (h : x ≠ .ignore) : x.badLevel = some (decide (x = .low)) := by
  cases x <;> simp [Sense.badLevel] at h ⊢

theorem exec_departure {s : State} {d : Device} (h : s.inReset = false)
    (hr : (s.device d).residency = .on ∨ (s.device d).residency = .parking) (hs : (s.device d).sense ≠ .ignore)
    (hc : inConformity s d = true) : exec (.departureFromConformity d) s =
      .next (losePower d (samplePgd d (decide ((s.device d).sense = .low)) s.quiet)) := by
  have conform : inConformity s.quiet d = true := hc
  simp only [exec, execDepartureFromConformity, event_running _ h, quiet_device, badLevel_eq hs, hr, conform, and_self,
    if_true]

/-- Settles O23: the device enters FAULT with its ACTIVE claim, its ready and its held claims. -/
theorem departureFaultsTheDevice : Obligations.DepartureFaultsTheDevice := by
  intro s d h hp hl hr hs hc ms mine
  have nodup : ms.Nodup := departing_nodup hp
  have law : ReferenceLaw (samplePgd d (decide ((s.device d).sense = .low)) s.quiet) := hl
  rw [exec_departure h hr hs hc]
  refine ⟨_, rfl, ?_, enterFault_claim d .powerLost mine _,
    enterFault_slot (s := samplePgd d _ s.quiet) (d := d) (cause := .powerLost) nodup,
    fun e => enterFault_device_other (s := samplePgd d _ s.quiet) (d := d) (cause := .powerLost) law nodup,
    enterFault_device_self (s := samplePgd d _ s.quiet) (d := d) (cause := .powerLost) law nodup⟩
  generalize decide ((s.device d).sense = .low) = level
  have frame := enterFault_frame (samplePgd d level s.quiet) d .powerLost mine (nodup.filter _)
    (allInFlight_filter (samplePgd d level s.quiet) d ms)
  have inMs : ∀ m, m ∈ ms ↔ (m ∈ activeMaster s ∨ m ∈ s.readyList) ∨ m ∈ s.holdList := fun m => by
    rw [List.mem_append, List.mem_append]
  obtain ⟨inI, _, _⟩ := hp.disjoint
  have caught : ((samplePgd d level s.quiet).interceptList.filter fun x => decide (x ∉ mine)) = s.interceptList :=
    filter_notMem_disjoint fun m hm => by
      obtain ⟨held, ready, active⟩ := inI m hm
      rw [inMs]; simp [held, ready, active]
  have held : ((samplePgd d level s.quiet).holdList.filter fun x => decide (x ∉ mine)) =
      s.holdList.filter fun m => !boundTo s d m := filter_notMem_filter fun m hm => (inMs m).mpr (Or.inr hm)
  have ready : ((samplePgd d level s.quiet).readyList.filter fun x => decide (x ∉ mine)) =
      s.readyList.filter fun m => !boundTo s d m :=
    filter_notMem_filter fun m hm => (inMs m).mpr (Or.inl (Or.inr hm))
  have bus : ((samplePgd d level s.quiet).cycle.filter fun c => decide (c.master ∉ mine)) =
      s.cycle.filter fun x => !boundTo s d x.master := by
    change (s.cycle.filter fun c => decide (c.master ∉ mine)) = _
    cases hcy : s.cycle with
    | none => rfl
    | some cy =>
      have active : cy.master ∈ ms := (inMs _).mpr (Or.inl (Or.inl (by rw [activeMaster, hcy]; simp)))
      rw [Option.filter_some, Option.filter_some]
      cases hb : boundTo s d cy.master <;> simp [mine, active, hb]
  rw [caught, held, ready, bus] at frame
  exact frame

/-! ## The start of a soft reset (R48, R76, R110) -/

theorem PlacesLaw.of_sameRecords {s t : State} (hs : PlacesLaw s) (h : SameRecords s t) : PlacesLaw t :=
  (h.places.keeps hs fun hr => h.1 ▸ hr).places

/-- Under the law of places every master in flight has a claim. -/
theorem PlacesLaw.allInFlight {s : State} (hs : PlacesLaw s) : AllInFlight s (inFlight s) := fun m hm =>
  Option.isSome_iff_exists.mp ((mem_inFlight hs m).mp hm)

/-- The soft reset answers the claims in flight, empties the lists and the bus, and makes the port EXECUTING. -/
theorem cmdSoftReset_frame {s : State} (hs : PlacesLaw s) : cmdSoftReset s =
    { s with
      answers := s.answers ++ answersOf (inFlight s) .reset, claims := (cmdSoftReset s).claims
      interceptList := [], holdList := [], readyList := [], cycle := none, markers := (cmdSoftReset s).markers
      slots := (cmdSoftReset s).slots, devices := (cmdSoftReset s).devices
      port := { s.port with condition := .executing .softReset { left := 2, due := false } } } := by
  have inFlight_iff := mem_inFlight_iff s
  have frame := answerAll_frame (inFlight s) .reset s (inFlight_nodup hs) hs.allInFlight
  have bus : (s.cycle.filter fun c => decide (c.master ∉ inFlight s)) = none := by
    cases hcy : s.cycle with
    | none => rfl
    | some cy =>
      have active : cy.master ∈ inFlight s := (inFlight_iff _).mpr (by rw [hcy]; simp)
      simp [active]
  rw [filter_notMem_all fun m hm => (inFlight_iff m).mpr (Or.inl hm),
    filter_notMem_all fun m hm => (inFlight_iff m).mpr (Or.inr (Or.inl hm)),
    filter_notMem_all fun m hm => (inFlight_iff m).mpr (Or.inr (Or.inr (Or.inl hm))), bus] at frame
  rw [cmdSoftReset_eq]
  generalize answerAll (inFlight s) .reset s = u at frame ⊢
  rw [frame]

theorem cmdSoftReset_marker (s : State) (m : Master) : (cmdSoftReset s).marker m = false := by
  rw [cmdSoftReset_eq]; simp [marker_def]

theorem cmdSoftReset_slots (s : State) : (cmdSoftReset s).slots = (answerAll (inFlight s) .reset s).slots := by
  rw [cmdSoftReset_eq]

theorem cmdSoftReset_slot {s : State} (hs : PlacesLaw s) (n : SlotId) :
    (cmdSoftReset s).slot n = slotAfterAnswers s (inFlight s) n := by
  rw [← answerAll_slot (inFlight s) .reset s n rfl (inFlight_nodup hs) hs.allInFlight, slot_def, cmdSoftReset_slots]
  rfl

theorem cmdSoftReset_references (s : State) (d : Device) :
    references (cmdSoftReset s) d = references (answerAll (inFlight s) .reset s) d := by
  refine references_congr d (fun n => ?_) (by rw [cmdSoftReset_eq]) (by rw [cmdSoftReset_eq])
  rw [slot_def, cmdSoftReset_slots, slot_def]

theorem cmdSoftReset_device (s : State) (d : Device) :
    (cmdSoftReset s).device d = ((answerAll (inFlight s) .reset s).device d).endParkEmpty := by
  rw [cmdSoftReset_eq]
  generalize answerAll (inFlight s) .reset s = u
  exact mapTable_getElem ..

/-- Every held claim of a device is in flight. -/
theorem deviceAmong_holdList_le (s : State) (d : Device) : deviceAmong s s.holdList d ≤
    (inFlight s).countP fun m => decide (m ∈ s.holdList ∧ s.deviceOf m = some d) := by
  have held : s.holdList.Sublist (inFlight s) :=
    (((List.sublist_append_right _ _).trans (List.sublist_append_left _ _)).trans (List.sublist_append_left _ _))
  have same : deviceAmong s s.holdList d =
      s.holdList.countP fun m => decide (m ∈ s.holdList ∧ s.deviceOf m = some d) :=
    List.countP_congr fun m hm => by simp [hm]
  rw [same]
  exact held.countP_le

/-- With the laws of held counts and references, a device keeps its record but for the end of a park. -/
theorem cmdSoftReset_device_lawful {s : State} (hs : PlacesLaw s) (hh : HeldCountLaw s) (hl : ReferenceLaw s)
    (d : Device) : (cmdSoftReset s).device d = { s.device d with
      heldCount := 0, refCount := references (cmdSoftReset s) d
      residency := if (s.device d).residency = .parking then .off else (s.device d).residency
      pen := (s.device d).pen && decide ((s.device d).residency ≠ .parking) } := by
  have none_held : (s.device d).heldCount -
      ((inFlight s).countP fun m => decide (m ∈ s.holdList ∧ s.deviceOf m = some d)) = 0 := by
    rw [hh d]; exact Nat.sub_eq_zero_of_le (deviceAmong_holdList_le s d)
  rw [cmdSoftReset_device, cmdSoftReset_references,
    answerAll_device_lawful (inFlight s) .reset d hl (inFlight_nodup hs) hs.allInFlight, none_held]
  unfold DeviceRecord.endParkEmpty
  by_cases hp : (s.device d).residency = .parking <;> simp [hp]

theorem exec_softReset {s : State} (h : s.inReset = false) (hb : s.port.busy = false) :
    exec .softReset s = .next (cmdSoftReset (takeCommandByte s.quiet)) := by
  simp only [exec, execSoftReset, event_sendWhole _ _ h hb]

/-! ## The claims and the directory of a state after a command byte -/

theorem deviceOf_congr {s t : State} {m : Master} (h : t.claim m = s.claim m) : t.deviceOf m = s.deviceOf m := by
  unfold State.deviceOf; rw [h]

theorem HeldCountLaw.of_eq {s t : State} (h : HeldCountLaw s) (hl : t.holdList = s.holdList)
    (hc : ∀ m, t.claim m = s.claim m) (hd : ∀ d, t.device d = s.device d) : HeldCountLaw t := fun d => by
  rw [hd, h d, hl]
  exact List.countP_congr fun m _ => by rw [deviceOf_congr (hc m)]

theorem slotAfterAnswers_congr {s t : State} (hs : ∀ n, t.slot n = s.slot n) (hc : ∀ m, t.claim m = s.claim m)
    (ms : List Master) (n : SlotId) : slotAfterAnswers t ms n = slotAfterAnswers s ms n := by
  have count : boundAmong t ms n = boundAmong s ms n :=
    List.countP_congr fun m _ => by rw [State.slotOf, State.slotOf, hc]
  rw [slotAfterAnswers, slotAfterAnswers, count, hs]

/-- Settles O7: the laws pass over the command byte, and the rest is the lemmas of `cmdSoftReset`. -/
theorem softResetAnswersEveryClaim : Obligations.SoftResetAnswersEveryClaim := by
  intro s h hb hp hh hl s₀ ms
  have slot : ∀ n, s₀.slot n = s.slot n := takeCommandByte_slot _
  have device : ∀ d, s₀.device d = s.device d := takeCommandByte_device _
  have claim : ∀ m, s₀.claim m = s.claim m := takeCommandByte_claim _
  have byte : SameRecords s.quiet s₀ := sameRecords_takeCommandByte (s := s.quiet) hb
  have places : PlacesLaw s₀ := (hp.of_sameRecords (sameRecords_quiet s)).of_sameRecords byte
  have law : ReferenceLaw s₀ := ((sameRecords_quiet s).ages.trans byte.ages).references hl
  have counts : HeldCountLaw s₀ := hh.of_eq (takeCommandByte_holdList _) claim device
  have masters : inFlight s₀ = ms := by simp [s₀, ms, inFlight, activeMaster]
  have answers : s₀.answers = [] := takeCommandByte_answers _
  have frame := cmdSoftReset_frame places
  rw [masters, answers, List.nil_append] at frame
  rw [exec_softReset h hb]
  refine ⟨cmdSoftReset s₀, rfl, frame, fun m => ⟨mem_inFlight hp m, cmdSoftReset_claim places.covered.1 m,
    cmdSoftReset_marker s₀ m⟩, fun n => ?_, fun d => ?_⟩
  · rw [cmdSoftReset_slot places, masters, slotAfterAnswers_congr slot claim]
  · rw [cmdSoftReset_device_lawful places counts law, device]

end Sys2Proof.Machine
end

section
/-! PROOF. The devices as their residencies say, and in conformity (O58): each way in which a record is rewritten is one
lemma about the record, and every other effect changes the two counts of a record at most. -/

namespace Sys2Proof.Machine

/-! ## The timers of a device -/

/-- A timer is stopped or has 1 to `n` ticks left (R58). -/
def TimerWithin (n : Nat) (t : Option Timer) : Prop :=
  (t.all fun x => decide (1 ≤ x.left) && decide (x.left ≤ n)) = true

theorem timerWithin_some {n : Nat} {t : Timer} : TimerWithin n (some t) ↔ 1 ≤ t.left ∧ t.left ≤ n := by
  simp [TimerWithin]

theorem timer_load_isSome (k : Nat) : (Timer.load k).isSome = true ↔ 0 < k := by
  unfold Timer.load; split <;> simp <;> omega

theorem timerWithin_load {k n : Nat} (h : k ≤ n) : TimerWithin n (Timer.load k) := by
  unfold Timer.load; split
  · rfl
  · rw [timerWithin_some]; simp only; omega

theorem timerWithin_tick {n : Nat} {t : Option Timer} (h : TimerWithin n t) : TimerWithin n (t.map Timer.tick) := by
  cases t with
  | none => rfl
  | some t => exact timerWithin_some.mpr (tick_left t n (timerWithin_some.mp h))

/-! ## The rewrites of a record -/

section
variable {r : DeviceRecord} (h : r.Lawful)
include h

/-- A wake starts: WAKING with the wake timer loaded (R62). -/
theorem DeviceRecord.Lawful.waking : DeviceRecord.Lawful { r with
    residency := .waking, pen := true, wakeTimer := Timer.load r.wakeTime, idleTimer := none
    faultCause := .none } := by
  obtain ⟨_, _, _, _, ranges, _, _⟩ := h
  have running : (Timer.load r.wakeTime).isSome = true := (timer_load_isSome _).mpr ranges.1
  exact ⟨by simp, by simp, by simp [running], by simp, ranges, timerWithin_load ranges.2.1, rfl⟩

/-- The power is removed from a device that is not in FAULT (R67 to R69). -/
theorem DeviceRecord.Lawful.off (hf : r.residency ≠ .fault) : DeviceRecord.Lawful { r with
    residency := .off, pen := false, wakeTimer := none, idleTimer := none } := by
  obtain ⟨_, cause, _, _, ranges, _, _⟩ := h
  exact ⟨by simp, by simp [cause.mpr hf], by simp, by simp, ranges, rfl, rfl⟩

/-- The power is removed from a device that goes to FAULT (R64, R71). -/
theorem DeviceRecord.Lawful.faulted {cause : FaultCause} (hc : cause ≠ .none) (k : Nat) : DeviceRecord.Lawful { r with
    residency := .fault, faultCause := cause, pen := false, wakeTimer := none, idleTimer := none, heldCount := k } := by
  obtain ⟨_, _, _, _, ranges, _, _⟩ := h
  exact ⟨by simp, by simp [hc], by simp, by simp, ranges, rfl, rfl⟩

/-- A WAKING or PARKING device enters ON with its idle timer loaded (R63, R65). -/
theorem DeviceRecord.Lawful.on (hr : r.residency = .waking ∨ r.residency = .parking) (k : Nat) :
    DeviceRecord.Lawful { r with
      residency := .on, wakeTimer := none, idleTimer := Timer.load r.idleLimit, heldCount := k } := by
  obtain ⟨pen, cause, _, _, ranges, _, _⟩ := h
  have powered : r.pen = true := pen.mpr (by tauto)
  have sound : r.faultCause = .none := cause.mpr (by rcases hr with e | e <;> simp [e])
  exact ⟨by simp [powered], by simp [sound], by simp, by simp [timer_load_isSome], ranges, rfl,
    timerWithin_load ranges.2.2⟩

/-- The idle timer of an ON device is loaded again (R66, R67). -/
theorem DeviceRecord.Lawful.reloaded (hr : r.residency = .on) :
    DeviceRecord.Lawful { r with idleTimer := Timer.load r.idleLimit } := by
  obtain ⟨pen, cause, wake, _, ranges, wakeLeft, _⟩ := h
  exact ⟨pen, cause, wake, by simp [timer_load_isSome, hr], ranges, wakeLeft, timerWithin_load ranges.2.2⟩

/-- An ON device is parked while it has work (R68). -/
theorem DeviceRecord.Lawful.parking (hr : r.residency = .on) :
    DeviceRecord.Lawful { r with residency := .parking, idleTimer := none } := by
  obtain ⟨pen, cause, wake, _, ranges, wakeLeft, _⟩ := h
  have powered : r.pen = true := pen.mpr (by tauto)
  have stopped : ¬ r.wakeTimer.isSome = true := by rw [wake, hr]; simp
  have sound : r.faultCause = .none := cause.mpr (by simp [hr])
  exact ⟨by simp [powered], by simp [sound], iff_of_false stopped (by simp), by simp, ranges, wakeLeft, rfl⟩

/-- A device without power has its PEN deasserted and its timers stopped. -/
theorem DeviceRecord.Lawful.unpowered (hr : r.residency = .absent ∨ r.residency = .off ∨ r.residency = .fault) :
    r.pen = false ∧ r.wakeTimer = none ∧ r.idleTimer = none := by
  obtain ⟨pen, _, wake, idle, _⟩ := h
  refine ⟨?_, ?_, ?_⟩
  · rw [← Bool.not_eq_true, pen]; rcases hr with e | e | e <;> simp [e]
  · rw [← Option.not_isSome_iff_eq_none, wake]; rcases hr with e | e | e <;> simp [e]
  · rw [← Option.not_isSome_iff_eq_none, idle]; rcases hr with e | e | e <;> simp [e]

/-- A device without power becomes ABSENT or OFF by its residency and its fault cause alone (R61, R72). -/
theorem DeviceRecord.Lawful.stays_unpowered
    (hr : r.residency = .absent ∨ r.residency = .off ∨ r.residency = .fault) {x : Residency}
    (hx : x = .absent ∨ x = .off) : DeviceRecord.Lawful { r with residency := x, faultCause := .none } := by
  obtain ⟨pen, wake, idle⟩ := h.unpowered hr
  obtain ⟨_, _, _, _, ranges, wakeLeft, idleLeft⟩ := h
  rcases hx with rfl | rfl <;>
    exact ⟨by simp [pen], by simp, by simp [wake], by simp [idle], ranges, wakeLeft, idleLeft⟩

/-- New parameters in range make an ABSENT or OFF device OFF (R60). -/
theorem DeviceRecord.Lawful.defined (hr : r.residency = .absent ∨ r.residency = .off) {w l : Nat} (aw : Bool)
    (x : Sense) (hw : 1 ≤ w ∧ w ≤ 250) (hl : l ≤ 60000) : (r.define w l aw x).Lawful := by
  obtain ⟨pen, wake, idle⟩ := h.unpowered (by tauto)
  unfold DeviceRecord.define
  exact ⟨by simp [pen], by simp, by simp [wake], by simp [idle], ⟨hw.1, hw.2, hl⟩, by simp [wake], by simp [idle]⟩

theorem DeviceRecord.Lawful.tick : r.tick.Lawful := by
  obtain ⟨pen, cause, wake, idle, ranges, wakeLeft, idleLeft⟩ := h
  exact ⟨pen, cause, by rw [DeviceRecord.tick, Option.isSome_map]; exact wake,
    by rw [DeviceRecord.tick, Option.isSome_map]; exact idle, ranges, timerWithin_tick wakeLeft,
    timerWithin_tick idleLeft⟩

/-- A park that ends without claims leaves the device OFF (R76, R78). -/
theorem DeviceRecord.Lawful.endParkEmpty : r.endParkEmpty.Lawful := by
  unfold DeviceRecord.endParkEmpty; split
  · next hp =>
    obtain ⟨_, cause, wake, idle, ranges, wakeLeft, idleLeft⟩ := h
    have sound : r.faultCause = .none := cause.mpr (by simp [hp])
    have noWake : ¬ r.wakeTimer.isSome = true := by rw [wake, hp]; simp
    have noIdle : ¬ r.idleTimer.isSome = true := by rw [idle, hp]; simp
    exact ⟨by simp, by simp [sound], iff_of_false noWake (by simp), iff_of_false noIdle (by simp), ranges, wakeLeft,
      idleLeft⟩
  · exact h

/-- After a soft reset a device is ABSENT with its parameters kept (R77). -/
theorem DeviceRecord.Lawful.softReset : r.softReset.Lawful := by
  obtain ⟨_, _, _, _, ranges, _, _⟩ := h
  unfold DeviceRecord.softReset
  exact ⟨by simp, by simp, by simp, by simp, ranges, rfl, rfl⟩

theorem DeviceRecord.Lawful.softResetZero (x : Straps) : (r.softResetZero x).Lawful := by
  by_cases hon : r.residency = .on
  · rw [softResetZero_on x hon]; exact h
  · rw [softResetZero_not_on x hon]; exact bootDevice_lawful x

end

/-! ## Devices one by one -/

/-- A device is as its residency says, and in conformity when it is ON or PARKING (R53, R54, R66, R71). -/
def DeviceKept (s : State) (d : Device) : Prop :=
  (s.device d).Lawful ∧
    ((s.device d).residency = .on ∨ (s.device d).residency = .parking → inConformity s d = true)

/-- Every device is. -/
def DevicesKept (s : State) : Prop := ∀ d, DeviceKept s d

theorem devicesKept_iff (s : State) : DevicesKept s ↔ DevicesLawful s ∧ ConformityLaw s := forall_and

/-- A device's record and its sampled level are as they were, but for the two counts. -/
structure SameDevice (s t : State) (d : Device) : Prop where
  record : t.device d =
    { s.device d with refCount := (t.device d).refCount, heldCount := (t.device d).heldCount }
  level : t.pgdLevel d = s.pgdLevel d

theorem SameDevice.refl (s : State) (d : Device) : SameDevice s s d := ⟨rfl, rfl⟩

theorem SameDevice.trans {s t u : State} {d : Device} (h : SameDevice s t d) (g : SameDevice t u d) :
    SameDevice s u d :=
  ⟨by rw [g.record, h.record], g.level.trans h.level⟩

theorem DeviceKept.of_same {s t : State} {d : Device} (hs : DeviceKept s d) (h : SameDevice s t d) :
    DeviceKept t d := by
  obtain ⟨lawful, conform⟩ := hs
  rw [DeviceKept, inConformity, h.level, h.record]
  exact ⟨lawful, conform⟩

theorem sameDevice_of_eq {s t : State} (hd : t.devices = s.devices) (hp : t.pgd = s.pgd) (d : Device) :
    SameDevice s t d :=
  ⟨by rw [device_def, hd, device_def], by rw [State.pgdLevel, hp, State.pgdLevel]⟩

theorem DevicesKept.of_same {s t : State} (hs : DevicesKept s) (h : ∀ d, SameDevice s t d) : DevicesKept t :=
  fun d => (hs d).of_same (h d)

theorem DevicesKept.of_eq {s t : State} (hs : DevicesKept s) (hd : t.devices = s.devices) (hp : t.pgd = s.pgd) :
    DevicesKept t :=
  hs.of_same (sameDevice_of_eq hd hp)

/-- The devices after a rewrite of one of them. -/
theorem kept_of_one {s t : State} {d : Device} (hs : ∀ e, e ≠ d → DeviceKept s e)
    (others : ∀ e, e ≠ d → SameDevice s t e) (hd : DeviceKept t d) : DevicesKept t := fun e => by
  by_cases he : e = d
  · rw [he]; exact hd
  · exact (hs e he).of_same (others e he)

theorem setDevice_same {s : State} {d e : Device} (r : DeviceRecord) (he : e ≠ d) : SameDevice s (s.setDevice d r) e :=
  ⟨by rw [device_setDevice, if_neg he], rfl⟩

/-- A lawful record may be written where it is not ON or PARKING, or its sense accepts the sampled level. -/
theorem setDevice_kept {s : State} {d : Device} {r : DeviceRecord} (hs : DevicesKept s) (hr : r.Lawful)
    (hc : r.residency = .on ∨ r.residency = .parking → r.sense.conforms (s.pgdLevel d) = true) :
    DevicesKept (s.setDevice d r) := by
  refine kept_of_one (fun e _ => hs e) (fun _ he => setDevice_same r he) ?_
  rw [DeviceKept, inConformity, device_setDevice, if_pos rfl]
  exact ⟨hr, hc⟩

/-! ## Claims -/

theorem answerClaim_same (m : Master) (a : Access) (r : Reason) (x : DataWord) (s : State) (d : Device) :
    SameDevice s (answerClaim m a r x s) d :=
  ⟨by rw [answerClaim_device, deviceAfterAnswer], by rw [State.pgdLevel, answerClaim_frame]; rfl⟩

theorem answerAll_same (ms : List Master) (r : Reason) (s : State) (d : Device) :
    SameDevice s (answerAll ms r s) d := by
  induction ms generalizing s with
  | nil => exact .refl s d
  | cons m ms ih =>
    rw [answerAll_cons]
    refine .trans ?_ (ih _)
    unfold answerMaster; split
    · exact answerClaim_same ..
    · exact .refl s d

theorem enterHold_same (m : Master) (a : Access) (s : State) (d : Device) : SameDevice s (enterHold m a s) d :=
  ⟨by rw [enterHold_device], rfl⟩

theorem startWake_kept {s : State} (hs : DevicesKept s) (d : Device) : DevicesKept (startWake d s) :=
  setDevice_kept hs (hs d).1.waking (by simp)

theorem powerOff_kept {s : State} (hs : DevicesKept s) {d : Device} (hf : (s.device d).residency ≠ .fault) :
    DevicesKept (powerOff d s) :=
  setDevice_kept hs ((hs d).1.off hf) (by simp)

theorem residencyStep_kept {s : State} (hs : DevicesKept s) (m : Master) (a : Access) :
    DevicesKept (residencyStep m a s) := by
  rcases residencyStep_cases m a s with ⟨_, h⟩ | ⟨_, h⟩ | ⟨_, h⟩ | ⟨_, r, _, h⟩ <;> rw [h]
  · exact hs.of_eq rfl rfl
  · exact hs.of_same (enterHold_same m a s)
  · exact (startWake_kept hs a.device).of_same (enterHold_same m a _)
  · exact hs.of_same (answerClaim_same m a r _ s)

theorem decideClaim_kept {s : State} (hs : DevicesKept s) (m : Master) (a : Address) (dir : Direction)
    (w : Width) (x : DataWord) : DevicesKept (decideClaim m a dir w x s) := by
  unfold decideClaim; split
  · exact hs.of_eq rfl rfl
  · exact hs.of_eq rfl rfl
  · exact residencyStep_kept hs m _
  · next n _ =>
    have bound : DevicesKept (raiseBound n s) := hs.of_eq rfl rfl
    simp only; split
    · exact bound.of_same (answerClaim_same _ _ _ _ _)
    · split
      · exact bound.of_eq rfl rfl
      · exact residencyStep_kept bound m _

theorem takeClaim_kept {s : State} (hs : DevicesKept s) (m : Master) (a : Address) (dir : Direction)
    (w : Width) (x : DataWord) : DevicesKept (takeClaim m a dir w x s) := by
  have marked : DevicesKept (s.setMarker m false) := hs.of_eq rfl rfl
  unfold takeClaim; simp only; split
  · exact marked.of_eq rfl rfl
  · exact decideClaim_kept marked m a dir w x

theorem reloadIdle_kept {s : State} (hs : DevicesKept s) (d : Device) : DevicesKept (reloadIdle d s) := by
  by_cases hon : (s.device d).residency = .on
  · unfold reloadIdle; rw [hon]
    exact setDevice_kept hs ((hs d).1.reloaded hon) (hs d).2
  · rw [reloadIdle_not_on hon]; exact hs

theorem endPark_kept {s : State} (hs : DevicesKept s) (d : Device) : DevicesKept (endPark d s) := by
  unfold endPark; split
  · next hp =>
    have off := powerOff_kept hs (d := d) (by simp [hp.1])
    split
    · exact off
    · exact startWake_kept (off.of_eq rfl rfl) d
  · exact hs

theorem complete_kept {s : State} (hs : DevicesKept s) (m : Master) (a : Access) (dd : DataWord) :
    DevicesKept (complete m a dd s) :=
  endPark_kept (reloadIdle_kept (hs.of_same (answerClaim_same _ _ _ _ _)) a.device) a.device

/-! ## Timers and power good -/

theorem tickAll_device (s : State) (d : Device) : (tickAll s).device d = (s.device d).tick := by
  rw [device_def]; simp only [tickAll, mapTable_getElem]; rfl

theorem tickAll_kept {s : State} (hs : DevicesKept s) : DevicesKept (tickAll s) := fun e => by
  rw [DeviceKept, inConformity, tickAll_device]
  exact ⟨(hs e).1.tick, (hs e).2⟩

/-- A sampled level is that of one device. -/
theorem samplePgd_same {d e : Device} (level : Bool) (s : State) (he : e ≠ d) : SameDevice s (samplePgd d level s) e :=
  ⟨rfl, (vector_set_getElem s.pgd d e level).trans (if_neg he)⟩

/-- A WAKING or PARKING device in conformity enters ON (R63, R65). -/
theorem enterOn_kept {s : State} {d : Device} (hs : DevicesKept s)
    (hr : (s.device d).residency = .waking ∨ (s.device d).residency = .parking) (hc : inConformity s d = true) :
    DevicesKept (enterOn d s) := by
  have level : ∀ e, (enterOn d s).pgdLevel e = s.pgdLevel e := fun e => by rw [State.pgdLevel, enterOn_eq]; rfl
  refine kept_of_one (fun e _ => hs e) (fun e he => ⟨by rw [enterOn_device, if_neg he], level e⟩) ?_
  rw [DeviceKept, inConformity, level, enterOn_device, if_pos rfl]
  exact ⟨(hs d).1.on hr 0, fun _ => hc⟩

/-- A fault asks nothing of the level at its own device, which has just departed from conformity (R71). -/
theorem enterFault_kept {s : State} {d : Device} {cause : FaultCause} (ms : List Master)
    (hs : ∀ e, e ≠ d → DeviceKept s e) (hd : (s.device d).Lawful) (hc : cause ≠ .none) :
    DevicesKept (enterFault d cause ms s) := by
  have answered := answerAll_same ms .deviceFault s
  refine kept_of_one hs (fun e he => ⟨?_, (answered e).level⟩) ?_
  · rw [enterFault_device, if_neg he]; exact (answered e).record
  · rw [DeviceKept, enterFault_device, if_pos rfl, (answered d).record]
    exact ⟨hd.faulted hc 0, by simp⟩

theorem endWake_kept {s : State} {d : Device} (hs : DevicesKept s) (hw : (s.device d).residency = .waking)
    (level : Bool) : DevicesKept (endWake d level s) := by
  have others : ∀ e, e ≠ d → DeviceKept (samplePgd d level s) e := fun e he =>
    (hs e).of_same (samplePgd_same level s he)
  have lawful : ((samplePgd d level s).device d).Lawful := (hs d).1
  have waking : ((samplePgd d level s).device d).residency = .waking := hw
  unfold endWake; simp only; split
  · next hc => exact enterOn_kept (kept_of_one others (fun e _ => .refl _ e) ⟨lawful, fun _ => hc⟩) (Or.inl waking) hc
  · exact enterFault_kept _ others lawful (by simp)

theorem losePower_kept {s : State} (hs : DevicesKept s) (d : Device) (level : Bool) :
    DevicesKept (losePower d (samplePgd d level s)) :=
  enterFault_kept _ (fun e he => (hs e).of_same (samplePgd_same level s he)) (hs d).1 (by simp)

theorem endIdle_kept {s : State} {d : Device} (hs : DevicesKept s) (hon : (s.device d).residency = .on) :
    DevicesKept (endIdle d s) := by
  unfold endIdle; split
  · exact setDevice_kept hs ((hs d).1.reloaded hon) (hs d).2
  · exact powerOff_kept hs (by simp [hon])

/-! ## Resets -/

/-- A device in which a park has ended without claims, at a level that its record before accepted (R76, R78). -/
theorem endParkEmpty_kept {s t : State} {d : Device} {r : DeviceRecord} (hr : r.Lawful)
    (hc : r.residency = .on ∨ r.residency = .parking → r.sense.conforms (s.pgdLevel d) = true)
    (hd : t.device d = r.endParkEmpty) (hp : t.pgdLevel d = s.pgdLevel d) : DeviceKept t d := by
  rw [DeviceKept, inConformity, hd, hp]
  refine ⟨hr.endParkEmpty, ?_⟩
  unfold DeviceRecord.endParkEmpty; split
  · simp
  · exact hc

theorem busReset_kept {s : State} (hs : DevicesKept s) : DevicesKept (busReset s) := fun e => by
  refine endParkEmpty_kept (s := s) ?_ ?_ (busReset_device s e) (by rw [State.pgdLevel, busReset]; rfl)
  · exact (hs e).1
  · exact (hs e).2

theorem cmdSoftReset_kept {s : State} (hs : DevicesKept s) : DevicesKept (cmdSoftReset s) := fun e => by
  have answered : DeviceKept (answerAll (inFlight s) .reset s) e := (hs e).of_same (answerAll_same ..)
  refine endParkEmpty_kept answered.1 answered.2 (cmdSoftReset_device s e) ?_
  rw [State.pgdLevel, cmdSoftReset_eq]; rfl

theorem completeSoftReset_kept {s : State} (hs : DevicesKept s) : DevicesKept (completeSoftReset s) :=
  fun e => by
    have level : (completeSoftReset s).pgdLevel e = s.pgdLevel e := by rw [State.pgdLevel, completeSoftReset_frame]; rfl
    rw [DeviceKept, inConformity, level, completeSoftReset_device]
    by_cases he : e = 0
    · subst he
      rw [if_pos rfl]
      refine ⟨(hs 0).1.softResetZero s.straps, fun hr => ?_⟩
      by_cases hon : (s.device 0).residency = .on
      · rw [softResetZero_on _ hon]; exact (hs 0).2 (Or.inl hon)
      · rw [softResetZero_not_on _ hon] at hr; simp [bootDevice] at hr
    · rw [if_neg he]
      exact ⟨(hs e).1.softReset, by simp [DeviceRecord.softReset]⟩

theorem powerOnState_kept (x : Straps) (s : State) : DevicesKept (powerOnState x s) :=
  (devicesKept_iff _).mpr ⟨powerOnState_devicesLawful x s, powerOnState_conformity x s⟩

theorem heldInReset_kept (s : State) : DevicesKept (heldInReset s) := fun e => by
  rw [DeviceKept, heldInReset_device]
  exact ⟨blank_lawful, by simp [DeviceRecord.blank]⟩

/-! ## Commands -/

/-- A fallback setting moves reference counts alone (R127). -/
theorem writeMissPolicy_device_refCount (p : MissPolicy) (d : Device) (w : Fin 16) (s : State) (e : Device) :
    (writeMissPolicy p d w s).device e =
      { s.device e with refCount := ((writeMissPolicy p d w s).device e).refCount } := by
  have moved : (writeMissPolicy p d w s).device e = (takeFallback p d (dropFallback s)).device e := rfl
  rw [moved, takeFallback_device, dropFallback_device]

section
variable {s : State} (hs : DevicesKept s)
include hs

theorem replied_kept (bs : List Byte) : DevicesKept (reply bs s) :=
  hs.of_eq rfl rfl

theorem resulted_kept (x : ResultCode) : DevicesKept (replyResult x s) := replied_kept hs _

theorem withDevice_kept {run : Device → State → State} (h : ∀ d, DevicesKept (run d s)) (b : Byte) :
    DevicesKept (withDevice b run s) := by
  unfold withDevice; split
  · exact h _
  · exact resulted_kept hs _

theorem cmdDefineDevice_kept (b w : Byte) (l : BitVec 16) (o : Byte) :
    DevicesKept (cmdDefineDevice b w l o s) := by
  unfold cmdDefineDevice; split
  · next d w' l' aw x _ hw hl _ =>
    have limit : l' ≤ 60000 := by
      unfold readIdleLimit at hl
      split at hl <;> cases hl
      assumption
    have defined : ∀ hr : (s.device d).residency = .absent ∨ (s.device d).residency = .off,
        DevicesKept (s.setDevice d ((s.device d).define w' l' aw x)) := fun hr =>
      setDevice_kept hs ((hs d).1.defined hr aw x (readTicks_range hw) limit) (by simp [DeviceRecord.define])
    split
    · next h => exact resulted_kept (defined (Or.inl h)) _
    · next h => exact resulted_kept (defined (Or.inr h)) _
    all_goals exact resulted_kept hs _
  · exact resulted_kept hs _

theorem forgetDevice_kept (d : Device) : DevicesKept (forgetDevice d s) := by
  have forgotten : ∀ hr : (s.device d).residency = .off ∨ (s.device d).residency = .fault,
      DevicesKept (s.setDevice d { s.device d with residency := .absent, faultCause := .none }) := fun hr =>
    setDevice_kept hs ((hs d).1.stays_unpowered (Or.inr hr) (Or.inl rfl)) (by simp)
  unfold forgetDevice; split
  · next h =>
    split
    · exact resulted_kept (forgotten (Or.inl h)) _
    · exact resulted_kept hs _
  · next h =>
    split
    · exact resulted_kept (forgotten (Or.inr h)) _
    · exact resulted_kept hs _
  all_goals exact resulted_kept hs _

theorem wakeDevice_kept (d : Device) : DevicesKept (wakeDevice d s) := by
  unfold wakeDevice; split
  · exact resulted_kept (startWake_kept hs d) _
  · exact resulted_kept hs _
  · exact resulted_kept hs _
  · next h => exact resulted_kept (enterOn_kept hs (Or.inr h) ((hs d).2 (Or.inr h))) _
  all_goals exact resulted_kept hs _

theorem parkDevice_kept (d : Device) : DevicesKept (parkDevice d s) := by
  unfold parkDevice; split
  · next h =>
    split
    · exact resulted_kept (setDevice_kept hs ((hs d).1.parking h) fun _ => (hs d).2 (Or.inl h)) _
    · exact resulted_kept (powerOff_kept hs (by simp [h])) _
  · next h =>
    split
    · exact resulted_kept (powerOff_kept hs (by simp [h])) _
    · exact resulted_kept hs _
  all_goals exact resulted_kept hs _

theorem clearFault_kept (d : Device) : DevicesKept (clearFault d s) := by
  unfold clearFault; split
  · next h =>
    exact resulted_kept (setDevice_kept hs
      ((hs d).1.stays_unpowered (Or.inr (Or.inr h)) (Or.inr rfl)) (by simp)) _
  all_goals exact resulted_kept hs _

theorem cmdOpen_kept (b : Byte) (base : Address) (k p d w g o : Byte) (r : Option Address) :
    DevicesKept (cmdOpen b base k p d w g o r s) := by
  unfold cmdOpen; split
  · next q _ =>
    have filled : DevicesKept (opened q s) := hs.of_same fun e => ⟨by rw [opened_device], rfl⟩
    by_cases h : openResult s q = .ok
    · rw [openSlot_taken h]; exact replied_kept filled _
    · rw [openSlot, if_neg h]; exact replied_kept hs _
  · exact replied_kept hs _

theorem setSlot_kept (n : SlotId) (w : Slot) : DevicesKept (s.setSlot n w) :=
  hs.of_eq rfl rfl

theorem cmdAmendWindow_kept (n g p w x v : Byte) : DevicesKept (cmdAmendWindow n g p w x v s) := by
  unfold cmdAmendWindow amendSlot; split
  · split
    · exact replied_kept (setSlot_kept hs _ _) _
    · exact replied_kept hs _
  · exact replied_kept hs _

theorem retireTaken_kept (n : SlotId) (staged : Bool) : DevicesKept (retireTaken n staged s) := by
  have freed : DevicesKept (freeSlot n s) := hs.of_same fun e => ⟨by rw [freeSlot_device], rfl⟩
  unfold retireTaken; split
  · exact freed
  · split
    · exact setSlot_kept hs _ _
    · split
      · exact freed
      · exact setSlot_kept hs _ _

theorem cmdRetireWindow_kept (n g x : Byte) : DevicesKept (cmdRetireWindow n g x s) := by
  unfold cmdRetireWindow retireSlot; split
  · split
    · exact resulted_kept (retireTaken_kept hs _ _) _
    · exact resulted_kept hs _
  · exact resulted_kept hs _

theorem cmdReadWindow_kept (n c : Byte) : DevicesKept (cmdReadWindow n c s) := by
  unfold cmdReadWindow readSlot; split
  · refine replied_kept ?_ _
    split
    · exact setSlot_kept hs _ _
    · exact hs
  · exact resulted_kept hs _

theorem cmdDiscard_kept : DevicesKept (cmdDiscard s) := by
  rw [cmdDiscard_eq]
  exact replied_kept (hs.of_same fun e =>
    ⟨by rw [discardAll_device], by rw [State.pgdLevel, discardAll, State.pgdLevel]⟩) _

theorem cmdProbe_kept (m dir w : Byte) (a : Address) : DevicesKept (cmdProbe m dir w a s) := by
  unfold cmdProbe; split <;> exact replied_kept hs _

theorem cmdInterceptInfo_kept : DevicesKept (cmdInterceptInfo s) := by
  unfold cmdInterceptInfo; split
  · exact resulted_kept hs _
  · split <;> exact replied_kept hs _

theorem applyVerdict_kept (v : Verdict) (m : Master) (c : Claim) (x : DataWord) :
    DevicesKept (applyVerdict v m c x s) := by
  cases v with
  | pass =>
    have left : DevicesKept { s with interceptList := s.interceptList.filter fun x => decide (x ≠ m) } :=
      hs.of_eq rfl rfl
    exact residencyStep_kept left m c.access
  | refuse => exact hs.of_same (answerClaim_same _ _ _ _ _)
  | supply =>
    have kept : DevicesKept (s.setClaim m (some { c with verdictData := some x })) := hs.of_eq rfl rfl
    exact kept.of_same (answerClaim_same _ _ _ _ _)

theorem cmdVerdictByte_kept (m v : Byte) (x : DataWord) : DevicesKept (cmdVerdictByte m v x s) := by
  unfold cmdVerdictByte cmdVerdict takeVerdict; split
  · split
    · split
      · exact resulted_kept (applyVerdict_kept hs _ _ _ _) _
      · split <;> exact resulted_kept hs _
    · exact resulted_kept hs _
  · exact resulted_kept hs _

theorem cmdSetMissPolicy_kept (p d w : Byte) : DevicesKept (cmdSetMissPolicy p d w s) := by
  unfold cmdSetMissPolicy; split
  · next p d w _ _ _ =>
    split
    · exact resulted_kept hs _
    · exact resulted_kept (hs.of_same fun e => ⟨by rw [writeMissPolicy_device_refCount],
        by rw [State.pgdLevel, writeMissPolicy_frame, State.pgdLevel]⟩) _
  · exact resulted_kept hs _

theorem cmdSetLimits_kept (h i : Byte) : DevicesKept (cmdSetLimits h i s) := by
  unfold cmdSetLimits; split <;> exact hs.of_eq rfl rfl

theorem cmdSetNotifyMask_kept (f : Byte) : DevicesKept (cmdSetNotifyMask f s) := by
  unfold cmdSetNotifyMask; split <;> exact hs.of_eq rfl rfl

theorem cmdClearNotify_kept (f : Byte) : DevicesKept (cmdClearNotify f s) := by
  unfold cmdClearNotify; split <;> exact hs.of_eq rfl rfl

/-- Every record that the decoder runs keeps the devices. (`CommandEffects` does not serve here: it says nothing of the
range of the parameters that DEFINE DEVICE writes.) -/
theorem devices_decoder : DecoderKeeps (DevicesKept) s where
  bad := resulted_kept hs _
  identify := replied_kept hs _
  defineDevice := cmdDefineDevice_kept hs
  forgetDevice := withDevice_kept hs (forgetDevice_kept hs)
  wakeDevice := withDevice_kept hs (wakeDevice_kept hs)
  parkDevice := withDevice_kept hs (parkDevice_kept hs)
  clearFault := withDevice_kept hs (clearFault_kept hs)
  readDevice := withDevice_kept hs fun _ => replied_kept hs _
  openWindow := cmdOpen_kept hs
  amendWindow := cmdAmendWindow_kept hs
  retireWindow := cmdRetireWindow_kept hs
  readWindow := cmdReadWindow_kept hs
  publish := hs.of_eq rfl rfl
  discard := cmdDiscard_kept hs
  probe := cmdProbe_kept hs
  interceptInfo := cmdInterceptInfo_kept hs
  verdict := cmdVerdictByte_kept hs
  setMissPolicy := cmdSetMissPolicy_kept hs
  setLimits := cmdSetLimits_kept hs
  setNotifyMask := cmdSetNotifyMask_kept hs
  readNotify := replied_kept hs _
  clearNotify := cmdClearNotify_kept hs
  softReset := cmdSoftReset_kept hs

theorem completePublish_kept : DevicesKept (completePublish s) := by
  have done : ∀ bs t, (DevicesKept t) → DevicesKept (raise .done (reply bs t)) := fun bs t ht =>
    ht.of_eq rfl rfl
  unfold completePublish; split
  · exact done _ _ hs
  · exact done _ _ <| hs.of_same fun e =>
      ⟨by rw [applyPublish_device], by rw [State.pgdLevel, applyPublish, State.pgdLevel]⟩

end

/-! ## The law -/

theorem devicesKept_keeps : Keeps DevicesKept where
  same _ _ hs h := hs.of_eq (by rw [h.2]) (by rw [h.2])
  arrival m a dir w x _ hs _ := takeClaim_kept hs m a dir w x
  grant _ _ _ _ hs _ _ _ := hs.of_eq rfl rfl
  completion cy c dd _ hs _ _ := complete_kept hs cy.master c.access dd
  tick _ hs := tickAll_kept hs
  wake _ level _ hs hw := endWake_kept hs hw level
  idle _ _ hs hon _ := endIdle_kept hs hon
  hold _ _ _ hs _ _ := hs.of_same (answerClaim_same _ _ _ _ _)
  intercept m c s hs _ _ := by
    have answered := hs.of_same (answerClaim_same m c.access .interceptTimeout 0#32 s)
    exact answered.of_eq rfl rfl
  departure d level _ hs _ _ := losePower_kept hs d level
  low s _ := heldInReset_kept s
  high x s _ := powerOnState_kept x s
  bus _ hs := busReset_kept hs
  record code params _ hs _ := runRecord_of (devices_decoder hs) code params
  unknown _ hs _ := resulted_kept hs _
  published _ _ hs _ := completePublish_kept hs
  rebuilt _ _ hs _ := completeSoftReset_kept hs

/-- Settles O58: device by device, each effect of `Keeps` rewrites one record lawfully or moves counts alone. -/
theorem stepKeepsTheDevicesLawful : Obligations.StepKeepsTheDevicesLawful := fun s t hl hc h =>
  (devicesKept_iff t).mp (step_keeps devicesKept_keeps h ((devicesKept_iff s).mpr ⟨hl, hc⟩))

end Sys2Proof.Machine
end

section
/-! PROOF. The held counts, and each claim's device in a residency that its phase allows (O59): a claim that moves finds
the residency it needs, and a device that changes its residency leaves no claim behind that the new one forbids. -/

namespace Sys2Proof.Machine

/-! ## Claims and the residencies of their devices -/

/-- Each held count is the number of claims held for the device, and each claim's device is in a residency that the
claim's phase allows (R56, R73). -/
structure ClaimsMatch (s : State) : Prop where
  counts : HeldCountLaw s
  residency : ResidencyLaw s

/-- A device without power has intercepted claims alone, which any residency allows. -/
theorem phaseAllows_of_unpowered {p : Phase} {r : Residency} (h : phaseAllows p r)
    (hr : r = .absent ∨ r = .off ∨ r = .fault) (x : Residency) : phaseAllows p x := by
  cases p <;> rcases hr with rfl | rfl | rfl <;> simp [phaseAllows] at h ⊢

theorem phaseAllows_parking {p : Phase} (h : phaseAllows p .on) : phaseAllows p .parking := by
  cases p <;> simp [phaseAllows] at h ⊢

/-- The held counts and the phases are read from the claims, the hold list and the devices; a device may change its
residency where the new one allows each of its claims. -/
theorem ClaimsMatch.of_devices {s t : State} (hs : ClaimsMatch s) (h : SamePlaces s t)
    (hh : ∀ d, (t.device d).heldCount = (s.device d).heldCount)
    (hr : ∀ m c, s.claim m = some c → phaseAllows c.phase (s.device c.access.device).residency →
      phaseAllows c.phase (t.device c.access.device).residency) : ClaimsMatch t where
  counts d := by
    rw [hh, hs.counts d, h.holdList]
    exact List.countP_congr fun m _ => by rw [deviceOf_congr (h.claim m)]
  residency m c hc := by
    rw [h.claim] at hc
    exact hr m c hc (hs.residency m c hc)

theorem ClaimsMatch.of_counts {s t : State} (hs : ClaimsMatch s) (h : SamePlaces s t)
    (hd : ∀ d, (t.device d).heldCount = (s.device d).heldCount ∧ (t.device d).residency = (s.device d).residency) :
    ClaimsMatch t :=
  hs.of_devices h (fun d => (hd d).1) fun _ c _ hc => by rw [(hd c.access.device).2]; exact hc

theorem ClaimsMatch.of_eq {s t : State} (hs : ClaimsMatch s) (h : SamePlaces s t) (hd : t.devices = s.devices) :
    ClaimsMatch t :=
  hs.of_counts h fun d => by rw [device_def, hd, device_def]; exact ⟨rfl, rfl⟩

/-- One device changes its residency, its held count staying. -/
theorem setDevice_match {s : State} {d : Device} {r : DeviceRecord} (hs : ClaimsMatch s)
    (hh : r.heldCount = (s.device d).heldCount)
    (hr : ∀ m c, s.claim m = some c → c.access.device = d → phaseAllows c.phase (s.device d).residency →
      phaseAllows c.phase r.residency) : ClaimsMatch (s.setDevice d r) := by
  refine hs.of_devices ⟨rfl, rfl, rfl, rfl, rfl, rfl⟩ (fun e => ?_) fun m c hc hp => ?_ <;> rw [device_setDevice]
  · split
    · next he => rw [he, hh]
    · rfl
  · split
    · next he => exact hr m c hc he (he ▸ hp)
    · exact hp

/-- A device without power changes its residency freely. -/
theorem setDevice_match_unpowered {s : State} {d : Device} {r : DeviceRecord} (hs : ClaimsMatch s)
    (hh : r.heldCount = (s.device d).heldCount) (hr : (s.device d).residency = .absent ∨
      (s.device d).residency = .off ∨ (s.device d).residency = .fault) : ClaimsMatch (s.setDevice d r) :=
  setDevice_match hs hh fun _ _ _ _ hp => phaseAllows_of_unpowered hp hr _

/-- Where no claim is in flight the counts are 0. -/
theorem claimsMatch_empty {s : State} (hc : ∀ m, s.claim m = none) (hl : s.holdList = [])
    (hh : ∀ d, (s.device d).heldCount = 0) : ClaimsMatch s :=
  ⟨fun d => by rw [hh, hl]; rfl, fun m c h => by rw [hc m] at h; cases h⟩

/-! ## What a device's claims can be -/

theorem PlacesLaw.holdList_nodup {s : State} (hp : PlacesLaw s) : s.holdList.Nodup := by
  obtain ⟨_, hold, _⟩ := hp
  exact hold

section
variable {s : State} (hp : PlacesLaw s) {d : Device} {m : Master} {c : Claim} (hm : s.claim m = some c)
include hp hm

theorem mem_holdList_of_held (h : c.phase = .held) : m ∈ s.holdList := by
  obtain ⟨_, _, _, _, hH, _⟩ := hp
  rw [hH, phaseOf_some hm, h]

theorem not_mem_holdList (h : c.phase ≠ .held) : m ∉ s.holdList := by
  obtain ⟨_, _, _, _, hH, _⟩ := hp
  rw [hH, phaseOf_some hm]
  simpa using h

theorem mem_work (h : c.phase = .ready ∨ c.phase = .active) :
    m ∈ s.readyList ∨ s.cycle.map DeviceCycle.master = some m := by
  obtain ⟨_, _, _, _, _, hR, hA, _⟩ := hp
  rw [hR, ← hA, phaseOf_some hm]
  rcases h with h | h <;> simp [h]

/-- A device without work has no ready and no active claim. -/
theorem phase_of_no_work (hd : c.access.device = d) (hw : hasWork s d = false) :
    c.phase ≠ .ready ∧ c.phase ≠ .active := by
  rw [← not_or]
  intro h
  rw [(hasWork_iff s d).mpr ⟨m, c, mem_work hp hm h, hm, hd⟩] at hw
  cases hw

/-- A device with a held count of 0 has no held claim. -/
theorem phase_of_no_held (hs : ClaimsMatch s) (hd : c.access.device = d) (h0 : (s.device d).heldCount = 0) :
    c.phase ≠ .held := by
  intro h
  rw [hs.counts d, deviceAmong, List.countP_eq_zero] at h0
  exact h0 m (mem_holdList_of_held hp hm h) (by simp [State.deviceOf, hm, hd])

end

/-- A device without ready, active and held claims may be OFF (R67 to R69); a WAKING one has no work by the law, and
an ON one no held claim. -/
theorem powerOff_match {s : State} {d : Device} (hp : PlacesLaw s) (hs : ClaimsMatch s)
    (hw : (s.device d).residency = .waking ∨ hasWork s d = false)
    (hh : (s.device d).residency = .on ∨ (s.device d).heldCount = 0) : ClaimsMatch (powerOff d s) := by
  refine setDevice_match hs rfl fun m c hm hd law => ?_
  have noWork : c.phase ≠ .ready ∧ c.phase ≠ .active := by
    rcases hw with h | h
    · rw [h] at law
      constructor <;> intro e <;> simp [e, phaseAllows] at law
    · exact phase_of_no_work hp hm hd h
  have noHeld : c.phase ≠ .held := by
    rcases hh with h | h
    · rw [h] at law
      intro e; simp [e, phaseAllows] at law
    · exact phase_of_no_held hp hm hs hd h
  cases hph : c.phase with
  | intercept => trivial
  | held => exact absurd hph noHeld
  | ready => exact absurd hph noWork.1
  | active => exact absurd hph noWork.2

/-! ## Claims that are answered or placed -/

/-- Without one of its distinct elements a list counts less by that element. -/
theorem countP_filter_ne {l : List Master} (hn : l.Nodup) (m : Master) (p : Master → Bool) :
    (l.filter fun x => decide (x ≠ m)).countP p = l.countP p - if m ∈ l ∧ p m = true then 1 else 0 := by
  have erased : (l.filter fun x => decide (x ≠ m)) = l.erase m := by
    rw [hn.erase_eq_filter]
    exact List.filter_congr fun x _ => by by_cases h : x = m <;> simp [h]
  rw [erased, List.countP_erase]

/-- When a claim ends, its device's held count falls exactly if it was held (R44, R56). -/
theorem ClaimsMatch.answered {s : State} {m : Master} {a : Access} (hs : ClaimsMatch s) (hn : s.holdList.Nodup)
    (hm : m ∈ s.holdList → s.deviceOf m = some a.device) (r : Reason) (x : DataWord) :
    ClaimsMatch (answerClaim m a r x s) where
  counts d := by
    have others : deviceAmong (answerClaim m a r x s) (answerClaim m a r x s).holdList d =
        (s.holdList.filter fun k => decide (k ≠ m)).countP fun k => decide (s.deviceOf k = some d) := by
      have left : (answerClaim m a r x s).holdList = s.holdList.filter fun k => decide (k ≠ m) := by
        rw [answerClaim_frame]
      rw [left]
      refine List.countP_congr fun k hk => ?_
      rw [deviceOf_congr (s := s) (by rw [answerClaim_claim, if_neg ((filter_ne_iff ..).mp hk).2])]
    rw [others, countP_filter_ne hn, answerClaim_device, deviceAfterAnswer, hs.counts d]
    by_cases hh : m ∈ s.holdList
    · simp [hh, hm hh, deviceAmong]
    · simp [hh, deviceAmong]
  residency k c hc := by
    rw [answerClaim_claim] at hc
    split at hc
    · cases hc
    · rw [answerClaim_device]; exact hs.residency k c hc

/-- A claim outside the hold list is written in a phase that its device's residency allows. -/
theorem ClaimsMatch.of_claim {s t : State} {m : Master} {c : Claim} (hs : ClaimsMatch s) (hm : m ∉ s.holdList)
    (hc : t.claims = s.claims.set m (some c)) (hl : t.holdList = s.holdList) (hd : t.devices = s.devices)
    (allowed : phaseAllows c.phase (s.device c.access.device).residency) : ClaimsMatch t := by
  have claim : ∀ k, t.claim k = if k = m then some c else s.claim k := fun k => by
    rw [claim_def, hc]; exact vector_set_getElem s.claims m k _
  have device : ∀ d, t.device d = s.device d := fun d => by rw [device_def, hd, device_def]
  refine ⟨fun d => ?_, fun k q hq => ?_⟩
  · rw [device, hs.counts d, hl]
    refine List.countP_congr fun k hk => ?_
    have hkm : k ≠ m := fun e => hm (e ▸ hk)
    rw [deviceOf_congr (s := s) (t := t) (by rw [claim, if_neg hkm])]
  · rw [claim] at hq
    rw [device]
    split at hq
    · cases hq; exact allowed
    · exact hs.residency k q hq

/-- A claim that enters the hold list raises the held count of its device, which is WAKING or PARKING (R56, R81). -/
theorem ClaimsMatch.entersHold {s : State} {m : Master} {a : Access} (hs : ClaimsMatch s) (hm : m ∉ s.holdList)
    (hr : (s.device a.device).residency = .waking ∨ (s.device a.device).residency = .parking) :
    ClaimsMatch (enterHold m a s) where
  counts d := by
    have others : deviceAmong (enterHold m a s) s.holdList d = deviceAmong s s.holdList d :=
      List.countP_congr fun k hk => by
        have hkm : k ≠ m := fun e => hm (e ▸ hk)
        rw [deviceOf_congr (s := s) (by rw [enterHold_claim, if_neg hkm])]
    have own : (enterHold m a s).deviceOf m = some a.device := by
      rw [State.deviceOf, enterHold_claim, if_pos rfl]; rfl
    have tail : deviceAmong (enterHold m a s) (s.holdList ++ [m]) d =
        deviceAmong s s.holdList d + if a.device = d then 1 else 0 := by
      rw [← others, deviceAmong, deviceAmong, List.countP_append, List.countP_singleton, own]
      simp
    rw [enterHold_device, hs.counts d]
    exact tail.symm
  residency k c hc := by
    rw [enterHold_claim] at hc
    rw [enterHold_device]
    split at hc
    · cases hc; exact hr
    · exact hs.residency k c hc

/-- The residency step finds its claim a device in a residency that allows it, or answers it (R37, R73). -/
theorem residencyStep_match {s : State} {m : Master} (hs : ClaimsMatch s) (hn : s.holdList.Nodup)
    (hm : m ∉ s.holdList) (a : Access) : ClaimsMatch (residencyStep m a s) := by
  rcases residencyStep_cases m a s with ⟨hr, h⟩ | ⟨hr, h⟩ | ⟨hr, h⟩ | ⟨_, r, _, h⟩ <;> rw [h]
  · exact hs.of_claim hm rfl rfl rfl (Or.inl hr)
  · exact hs.entersHold hm hr
  · have woken : ClaimsMatch (startWake a.device s) := setDevice_match_unpowered hs rfl (Or.inr (Or.inl hr))
    exact woken.entersHold hm (Or.inl (by rw [startWake_device, if_pos rfl]))
  · exact hs.answered hn (fun h => absurd h hm) r _

theorem giveAnswer_match {s : State} (hs : ClaimsMatch s) {m : Master} (hm : s.claim m = none) (r : Reason)
    (x : DataWord) : ClaimsMatch (giveAnswer m r x s) :=
  hs.of_eq ⟨claims_set_none hm, rfl, rfl, rfl, rfl, rfl⟩ rfl

section
variable {s : State} (hp : PlacesLaw s) (hs : ClaimsMatch s)
include hp hs

theorem decideClaim_match {m : Master} (hm : s.claim m = none) (a : Address) (dir : Direction) (w : Width)
    (x : DataWord) : ClaimsMatch (decideClaim m a dir w x s) := by
  have hold := hp.holdList_nodup
  have nowhere : m ∉ s.holdList := (not_mem_inFlight (hp.nowhere hm)).2.1
  unfold decideClaim; split
  · exact giveAnswer_match hs hm _ _
  · exact giveAnswer_match hs hm _ _
  · exact residencyStep_match hs hold nowhere _
  · next n _ =>
    have bound : ClaimsMatch (raiseBound n s) := hs.of_eq (raiseBound_samePlaces n s) rfl
    simp only; split
    · exact bound.answered hold (fun h => absurd h nowhere) _ _
    · split
      · exact bound.of_claim nowhere rfl rfl rfl trivial
      · exact residencyStep_match bound hold nowhere _

theorem takeClaim_match {m : Master} (hm : s.claim m = none) (a : Address) (dir : Direction) (w : Width)
    (x : DataWord) : ClaimsMatch (takeClaim m a dir w x s) := by
  have same := setMarker_samePlaces m false s
  have places : PlacesLaw (s.setMarker m false) := (same.keeps_of_port hp rfl).places
  have marked : ClaimsMatch (s.setMarker m false) := hs.of_eq same rfl
  unfold takeClaim; simp only; split
  · exact giveAnswer_match marked hm _ _
  · exact decideClaim_match places marked hm a dir w x

theorem answerClaim_match {m : Master} {c : Claim} (hm : s.claim m = some c) (r : Reason) (x : DataWord) :
    ClaimsMatch (answerClaim m c.access r x s) :=
  hs.answered hp.holdList_nodup (fun _ => by rw [State.deviceOf, hm]; rfl) r x

end

theorem answerAll_match (ms : List Master) (r : Reason) {s : State} (hp : PlacesLaw s) (hs : ClaimsMatch s) :
    ClaimsMatch (answerAll ms r s) := by
  induction ms generalizing s with
  | nil => exact hs
  | cons m ms ih =>
    rw [answerAll_cons]
    unfold answerMaster; split
    · next h => exact ih (answerClaim_keepsPlaces hp ..).places (answerClaim_match hp hs h _ _)
    · exact ih hp hs

/-! ## Claims that leave the hold list or the bus -/

theorem tickAll_match {s : State} (hs : ClaimsMatch s) : ClaimsMatch (tickAll s) := by
  have device : ∀ d, (tickAll s).device d = (s.device d).tick := tickAll_device s
  refine ⟨fun d => ?_, fun m c hc => ?_⟩
  · rw [device]
    refine (hs.counts d).trans (List.countP_congr fun m _ => ?_)
    rw [State.deviceOf, State.deviceOf, tickAll_claim]
    cases s.claim m <;> rfl
  · rw [tickAll_claim] at hc
    obtain ⟨c', hc', rfl⟩ := Option.map_eq_some_iff.mp hc
    rw [device]
    exact hs.residency m c' hc'

section
variable {s : State} (hp : PlacesLaw s) (hs : ClaimsMatch s)
include hp hs

theorem grantHead_match {m : Master} {rest : List Master} {c : Claim} (hr : s.readyList = m :: rest)
    (hm : s.claim m = some c) : ClaimsMatch (grantHead m rest c s) := by
  have ready : c.phase = .ready := by
    obtain ⟨_, _, _, _, _, hR, _⟩ := hp
    have phase := (hR m).mp (by rw [hr]; simp)
    rw [phaseOf_some hm] at phase
    exact Option.some.inj phase
  have allowed := hs.residency m c hm
  rw [ready] at allowed
  exact hs.of_claim (not_mem_holdList hp hm (by simp [ready])) rfl rfl rfl allowed

/-- The end of a park leaves the device OFF without claims that ask for it, or WAKING with held claims (R69). -/
theorem endPark_match (d : Device) : ClaimsMatch (endPark d s) := by
  by_cases h : (s.device d).residency = .parking ∧ hasWork s d = false
  · obtain ⟨park, work⟩ := h
    by_cases h0 : (s.device d).heldCount = 0
    · rw [endPark_off park work h0]
      exact powerOff_match hp hs (Or.inr work) (Or.inr h0)
    · rw [endPark_again park work h0]
      have woken : ClaimsMatch (startWake d s) := setDevice_match hs rfl fun m c hm hd _ => by
        obtain ⟨noReady, noActive⟩ := phase_of_no_work hp hm hd work
        cases hph : c.phase with
        | intercept => trivial
        | held => exact Or.inl rfl
        | ready => exact absurd hph noReady
        | active => exact absurd hph noActive
      exact woken.of_eq ⟨rfl, rfl, rfl, rfl, rfl, rfl⟩ rfl
  · rw [endPark, if_neg h]; exact hs

theorem complete_match {m : Master} {c : Claim} (hm : s.claim m = some c) (dd : DataWord) :
    ClaimsMatch (complete m c.access dd s) := by
  have places := (answerClaim_keepsPlaces hp m c.access .done (answerData c.access.direction c.access.width dd)).places
  have answered := answerClaim_match hp hs hm .done (answerData c.access.direction c.access.width dd)
  unfold complete
  generalize answerClaim m c.access .done _ s = u at places answered
  have same := reloadIdle_samePlaces c.access.device u
  have reloaded : ClaimsMatch (reloadIdle c.access.device u) :=
    answered.of_counts same fun d => by rw [reloadIdle_device]; exact ⟨rfl, rfl⟩
  exact endPark_match (same.keeps_of_port places (reloadIdle_stays ..).1).places reloaded _

/-- A device that enters ON takes its held claims into the ready list, so it has none held (R84, R85). -/
theorem enterOn_match (d : Device) : ClaimsMatch (enterOn d s) where
  counts e := by
    have left : (enterOn d s).holdList = s.holdList.filter fun m => !boundTo s d m := by rw [enterOn_eq]
    have device : ∀ m, (enterOn d s).deviceOf m = s.deviceOf m := fun m => by
      rw [State.deviceOf, State.deviceOf, enterOn_claim]
      split
      · cases s.claim m <;> rfl
      · rfl
    have count : deviceAmong (enterOn d s) (enterOn d s).holdList e =
        s.holdList.countP fun m => decide (s.deviceOf m = some e) && !boundTo s d m := by
      rw [deviceAmong, left, List.countP_filter]
      simp only [device]
    rw [count, enterOn_device]
    by_cases he : e = d
    · rw [if_pos he, he, eq_comm, List.countP_eq_zero]
      intro m _
      cases hb : boundTo s d m
      · have := mt (boundTo_iff_deviceOf s d m).mpr (by simp [hb])
        simp [this]
      · simp
    · rw [if_neg he, hs.counts e]
      refine List.countP_congr fun m _ => ?_
      cases hb : boundTo s d m
      · simp
      · have other : ¬ d = e := fun x => he x.symm
        simp [(boundTo_iff_deviceOf s d m).mp hb, other]
  residency m c hc := by
    have law : ∀ q, s.claim m = some q → (m ∈ s.holdList → q.access.device ≠ d) →
        phaseAllows q.phase ((enterOn d s).device q.access.device).residency := fun q hq hn => by
      have before := hs.residency m q hq
      rw [enterOn_device]
      split
      · next he =>
        cases hph : q.phase with
        | intercept => trivial
        | held => exact absurd he (hn (mem_holdList_of_held hp hq hph))
        | ready => exact Or.inl rfl
        | active => exact Or.inl rfl
      · exact before
    rw [enterOn_claim] at hc
    split at hc
    · next h =>
      obtain ⟨q, hq, rfl⟩ := Option.map_eq_some_iff.mp hc
      obtain ⟨q', hq', hd⟩ := (boundTo_iff s d m).mp h.2
      rw [hq] at hq'
      cases hq'
      have on : ((enterOn d s).device q.released.access.device).residency = .on := by
        exact congrArg DeviceRecord.residency ((enterOn_device d _ s).trans (if_pos hd))
      exact Or.inl on
    · next h => exact law c hc fun hh hd => h ⟨hh, (boundTo_iff s d m).mpr ⟨c, hc, hd⟩⟩

/-- A device that goes to FAULT has every claim answered but those that are intercepted (R64, R71). -/
theorem enterFault_match {d : Device} {cause : FaultCause} {ms : List Master}
    (hms : ∀ m c, s.claim m = some c → c.access.device = d → c.phase ≠ .intercept → m ∈ ms) :
    ClaimsMatch (enterFault d cause ms s) := by
  have claim := answerAll_claim ms .deviceFault s
  have places := (answerAll_keepsPlaces ms .deviceFault hp).places
  have answered := answerAll_match ms .deviceFault hp hs
  unfold enterFault; simp only
  generalize answerAll ms .deviceFault s = u at claim places answered
  have caught : ∀ m c, u.claim m = some c → c.access.device = d → c.phase = .intercept := fun m c hc hd => by
    rw [claim] at hc
    split at hc
    · cases hc
    · next h => exact by_contra fun hph => h (hms m c hc hd hph)
  have unheld : (u.device d).heldCount = 0 := by
    rw [answered.counts d, deviceAmong, List.countP_eq_zero]
    intro m hm
    rw [decide_eq_true_eq]
    intro hd
    obtain ⟨c, hc, hdev⟩ := Option.map_eq_some_iff.mp hd
    exact not_mem_holdList places hc (by simp [caught m c hc hdev]) hm
  have faulted : ∀ r : DeviceRecord, r.heldCount = 0 → ClaimsMatch (u.setDevice d r) := fun r hr =>
    setDevice_match answered (hr.trans unheld.symm) fun m c hc hd _ => by rw [caught m c hc hd]; trivial
  exact (faulted _ rfl).of_eq (sameRecords_raise _ .fault).places rfl

theorem endWake_match {d : Device} (hw : (s.device d).residency = .waking) (level : Bool) :
    ClaimsMatch (endWake d level s) := by
  have same := samplePgd_samePlaces d level s
  have places : PlacesLaw (samplePgd d level s) := (same.keeps_of_port hp rfl).places
  have sampled : ClaimsMatch (samplePgd d level s) := hs.of_eq same rfl
  by_cases hg : (s.device d).sense.conforms level = true
  · rw [endWake_conforms hg]; exact enterOn_match places sampled d
  · rw [endWake_fails hg]
    refine enterFault_match places sampled fun m c hm hd hph => ?_
    have law := hs.residency m c hm
    rw [hd, hw] at law
    have held : c.phase = .held := by
      cases h : c.phase with
      | held => rfl
      | intercept => exact absurd h hph
      | ready => simp [h, phaseAllows] at law
      | active => simp [h, phaseAllows] at law
    exact List.mem_filter.mpr ⟨mem_holdList_of_held hp hm held, (boundTo_iff s d m).mpr ⟨c, hm, hd⟩⟩

theorem losePower_match (d : Device) (level : Bool) : ClaimsMatch (losePower d (samplePgd d level s)) := by
  have same := samplePgd_samePlaces d level s
  have places : PlacesLaw (samplePgd d level s) := (same.keeps_of_port hp rfl).places
  refine enterFault_match places (hs.of_eq same rfl) fun m c hm hd hph => ?_
  refine List.mem_filter.mpr ⟨?_, (boundTo_iff _ d m).mpr ⟨c, hm, hd⟩⟩
  rw [List.mem_append, List.mem_append, mem_activeMaster]
  cases h : c.phase with
  | intercept => exact absurd h hph
  | held => exact Or.inr (mem_holdList_of_held places hm h)
  | ready => exact Or.inl (mem_work places hm (Or.inl h)).symm
  | active => exact Or.inl (mem_work places hm (Or.inr h)).symm

theorem endIdle_match {d : Device} (hon : (s.device d).residency = .on) : ClaimsMatch (endIdle d s) := by
  unfold endIdle; split
  · exact setDevice_match hs rfl fun _ _ _ _ => id
  · next h => exact powerOff_match hp hs (Or.inr (Bool.eq_false_of_not_eq_true h)) (Or.inl hon)

/-! ## Resets -/

theorem cmdSoftReset_match : ClaimsMatch (cmdSoftReset s) := by
  have claim := cmdSoftReset_claim hp.covered.1
  obtain ⟨_, hold, _, _⟩ := (cmdSoftReset_keepsPlaces hp).places.empty claim
  refine claimsMatch_empty claim hold fun d => ?_
  have answered := (answerAll_match (inFlight s) .reset hp hs).counts d
  have none : (answerAll (inFlight s) .reset s).holdList = [] := by
    rw [← (cmdSoftReset_samePlaces s).holdList]; exact hold
  rw [cmdSoftReset_device, DeviceRecord.endParkEmpty]
  rw [none] at answered
  split <;> exact answered

/-- A soft reset completes without claims in flight (R49), so D0 has none held. -/
theorem completeSoftReset_match (hc : ∀ m, s.claim m = none) : ClaimsMatch (completeSoftReset s) := by
  have same := completeSoftReset_samePlaces s
  obtain ⟨_, hold, _, _⟩ := hp.empty hc
  refine claimsMatch_empty (fun m => by rw [same.claim, hc]) (same.holdList.trans hold) fun d => ?_
  rw [completeSoftReset_device]
  split
  · by_cases hon : (s.device 0).residency = .on
    · rw [softResetZero_on _ hon]
      refine (hs.counts 0).trans ?_
      rw [hold]; rfl
    · rw [softResetZero_not_on _ hon]; rfl
  · rfl

end

theorem busReset_match (s : State) : ClaimsMatch (busReset s) := by
  refine claimsMatch_empty (busReset_claim s) rfl fun d => ?_
  rw [busReset_device, DeviceRecord.endParkEmpty]
  split <;> rfl

theorem powerOnState_match (x : Straps) (s : State) : ClaimsMatch (powerOnState x s) :=
  ⟨powerOnState_heldCount x s, powerOnState_residency x s⟩

theorem heldInReset_match (s : State) : ClaimsMatch (heldInReset s) :=
  claimsMatch_empty (heldInReset_claim s) rfl fun d => by rw [heldInReset_device]; rfl

/-! ## Commands -/

theorem retireTaken_heldCount (n : SlotId) (staged : Bool) (s : State) (d : Device) :
    ((retireTaken n staged s).device d).heldCount = (s.device d).heldCount := by
  have freed : ((freeSlot n s).device d).heldCount = (s.device d).heldCount := by rw [freeSlot_device]
  unfold retireTaken; split
  · exact freed
  · split
    · rfl
    · split
      · exact freed
      · rfl

section
variable {s : State} (hp : PlacesLaw s) (hs : ClaimsMatch s)
include hp hs

theorem applyVerdict_match (v : Verdict) {m : Master} {c : Claim} (x : DataWord) (hi : m ∈ s.interceptList)
    (hm : s.claim m = some c) : ClaimsMatch (applyVerdict v m c x s) := by
  have nowhere : m ∉ s.holdList := (hp.disjoint.1 m hi).1
  cases v with
  | pass =>
    have left : ClaimsMatch { s with interceptList := s.interceptList.filter fun x => decide (x ≠ m) } :=
      ⟨hs.counts, hs.residency⟩
    exact residencyStep_match left hp.holdList_nodup nowhere c.access
  | refuse => exact answerClaim_match hp hs hm _ _
  | supply =>
    have kept : ClaimsMatch (s.setClaim m (some { c with verdictData := some x })) :=
      hs.of_claim nowhere rfl rfl rfl (hs.residency m c hm)
    exact kept.answered hp.holdList_nodup (fun h => absurd h nowhere) _ _

theorem match_effects : CommandEffects ClaimsMatch s where
  nothing := hs
  defined _ _ _ _ _ h := setDevice_match_unpowered hs rfl (by tauto)
  forgotten _ h _ := setDevice_match_unpowered hs rfl (Or.inr h)
  woken _ h := setDevice_match_unpowered hs rfl (Or.inr (Or.inl h))
  reentered d _ := enterOn_match hp hs d
  parking _ h _ := setDevice_match hs rfl fun _ _ _ _ law => phaseAllows_parking (h ▸ law)
  parked _ h := by
    rcases h with ⟨hon, hw⟩ | ⟨hw, h0⟩
    · exact powerOff_match hp hs (Or.inr hw) (Or.inl hon)
    · exact powerOff_match hp hs (Or.inl hw) (Or.inr h0)
  cleared _ h := setDevice_match_unpowered hs rfl (Or.inr (Or.inr h))
  opened q _ _ := hs.of_counts ⟨rfl, rfl, rfl, rfl, rfl, rfl⟩ fun d => by rw [opened_device]; exact ⟨rfl, rfl⟩
  amended _ _ _ _ _ _ _ := hs.of_eq ⟨rfl, rfl, rfl, rfl, rfl, rfl⟩ rfl
  retired n staged _ := by
    obtain ⟨_, _, residency⟩ := retireTaken_frame n staged s
    exact hs.of_counts (retireTaken_samePlaces n staged s) fun d =>
      ⟨retireTaken_heldCount n staged s d, residency d⟩
  untouched _ := hs.of_eq ⟨rfl, rfl, rfl, rfl, rfl, rfl⟩ rfl
  discarded := hs.of_counts (discardAll_samePlaces s) fun d => by rw [discardAll_device]; exact ⟨rfl, rfl⟩
  verdict v m c x h := by
    unfold caughtClaim at h
    split at h
    · next hi => exact applyVerdict_match hp hs v x hi h
    · cases h
  policy p d w _ := hs.of_counts (writeMissPolicy_samePlaces p d w s) fun e => by
    rw [writeMissPolicy_device_refCount]
    exact ⟨rfl, rfl⟩
  limits _ _ := hs.of_eq ⟨rfl, rfl, rfl, rfl, rfl, rfl⟩ rfl
  mask _ := hs.of_eq ⟨rfl, rfl, rfl, rfl, rfl, rfl⟩ rfl
  flags _ := hs.of_eq ⟨rfl, rfl, rfl, rfl, rfl, rfl⟩ rfl

theorem match_decoder : DecoderKeeps ClaimsMatch s :=
  (match_effects hp hs).decoder (fun _ _ ht => ht.of_eq ⟨rfl, rfl, rfl, rfl, rfl, rfl⟩ rfl)
    (hs.of_eq ⟨rfl, rfl, rfl, rfl, rfl, rfl⟩ rfl) (cmdSoftReset_match hp hs)

end

theorem completePublish_match {s : State} (hs : ClaimsMatch s) : ClaimsMatch (completePublish s) := by
  refine hs.of_counts (completePublish_samePlaces s) fun d => ?_
  unfold completePublish; split
  · exact ⟨rfl, rfl⟩
  · have done : ∀ bs t, (raise .done (reply bs t)).device d = t.device d := fun _ _ => rfl
    rw [done, applyPublish_device]
    exact ⟨rfl, rfl⟩

/-! ## The law -/

theorem claimsMatch_keeps : Keeps fun s => PlacesLaw s ∧ ClaimsMatch s where
  same s t := fun ⟨hp, hs⟩ h => ⟨hp.of_sameRecords h, hs.of_eq h.places (by rw [h.2])⟩
  arrival m a dir w x s := fun ⟨hp, hs⟩ hm =>
    ⟨(takeClaim_keepsPlaces hp hm a dir w x).places, takeClaim_match hp hs hm a dir w x⟩
  grant m rest c s := fun ⟨hp, hs⟩ hcy hr hm => ⟨grantHead_placesLaw hp hcy hr hm, grantHead_match hp hs hr hm⟩
  completion cy c dd s := fun ⟨hp, hs⟩ _ hm =>
    ⟨(complete_keepsPlaces hp cy.master c.access dd).places, complete_match hp hs hm dd⟩
  tick s := fun ⟨hp, hs⟩ => ⟨(tickAll_keepsPlaces hp).places, tickAll_match hs⟩
  wake d level s := fun ⟨hp, hs⟩ hw => ⟨(endWake_keepsPlaces hp d level).places, endWake_match hp hs hw level⟩
  idle d s := fun ⟨hp, hs⟩ hon _ =>
    ⟨((endIdle_samePlaces d s).keeps_of_port hp (endIdle_stays d s).1).places, endIdle_match hp hs hon⟩
  hold m c s := fun ⟨hp, hs⟩ hm _ => ⟨(answerClaim_keepsPlaces hp ..).places, answerClaim_match hp hs hm _ _⟩
  intercept m c s := fun ⟨hp, hs⟩ hm _ => by
    have same := setMarker_samePlaces m true (answerClaim m c.access .interceptTimeout 0#32 s)
    exact ⟨(same.keeps_of_port (answerClaim_keepsPlaces hp ..).places rfl).places,
      (answerClaim_match hp hs hm _ _).of_eq same rfl⟩
  departure d level s := fun ⟨hp, hs⟩ _ _ => ⟨(losePower_keepsPlaces hp d level).places, losePower_match hp hs d level⟩
  low s := fun _ => ⟨placesLaw_empty (heldInReset_claim s) rfl rfl rfl rfl, heldInReset_match s⟩
  high x s := fun _ => ⟨powerOnState_placesLaw x s, powerOnState_match x s⟩
  bus s := fun _ => ⟨placesLaw_empty (busReset_claim s) rfl rfl rfl rfl, busReset_match s⟩
  record code params s := fun ⟨hp, hs⟩ _ =>
    ⟨(runRecord_of (places_decoder hp) code params).places, runRecord_of (match_decoder hp hs) code params⟩
  unknown s := fun ⟨hp, hs⟩ _ =>
    ⟨(replied_keepsPlaces (.refl hp) _).places, hs.of_eq ⟨rfl, rfl, rfl, rfl, rfl, rfl⟩ rfl⟩
  published s x := fun ⟨hp, hs⟩ _ =>
    ⟨((completePublish_samePlaces s).keeps hp fun h => by
      rw [completePublish_not_softResetting] at h; cases h).places, completePublish_match hs⟩
  rebuilt s x := fun ⟨hp, hs⟩ h =>
    ⟨((completeSoftReset_samePlaces s).keeps hp fun hr => by cases hr).places,
      completeSoftReset_match hp hs (hp.covered.2 (by unfold softResetting; rw [h]))⟩

/-- Settles O59: with the claims in their places, each effect of `Keeps` keeps the counts and the residencies. -/
theorem stepKeepsClaimsWithTheirDevices : Obligations.StepKeepsClaimsWithTheirDevices := fun s t hp hh hr h => by
  obtain ⟨_, counts, residency⟩ := step_keeps claimsMatch_keeps h ⟨hp, hh, hr⟩
  exact ⟨counts, residency⟩

end Sys2Proof.Machine
end

section
/-! PROOF. The ticks (O20), the expiry of an idle timer (O22) and the device commands (O32 to O35). -/

namespace Sys2Proof.Machine

/-! ## Ticks (R57, R58) -/

/-- A tick lowers a count above 1, and otherwise makes the expiry due. -/
theorem tick_eq (t : Timer) :
    t.tick = if 1 < t.left then { t with left := t.left - 1 } else { t with due := true } := by
  unfold Timer.tick
  by_cases h : 1 < t.left
  · rw [if_pos h, if_neg (by omega)]
  · rw [if_neg h, if_pos (by omega)]

/-- The `n`-th tick makes the expiry of a timer loaded with `n` due: the tick before it leaves 1 (R58). -/
theorem tick_iterate_due {n : Nat} (h : 0 < n) : (Timer.tick^[n] { left := n, due := false }).due = true := by
  obtain ⟨k, rfl⟩ := Nat.exists_eq_succ_of_ne_zero (by omega : n ≠ 0)
  rw [Function.iterate_succ_apply', tick_iterate (k + 1) k (by omega), Timer.tick, if_pos (by simp)]

theorem load_pos {n : Nat} (h : 0 < n) : Timer.load n = some { left := n, due := false } :=
  if_neg (by omega)

/-- Settles O20: `tickAll` table by table, and the ticks of one timer by iteration. -/
theorem tickReachesEveryTimer : Obligations.TickReachesEveryTimer := by
  refine ⟨?_, fun n hn => ⟨load_pos hn, tick_iterate_due hn, fun k hk => tick_iterate n k hk⟩⟩
  intro s h tick
  have ticks : tick = Timer.tick := funext fun t => (tick_eq t).symm
  refine ⟨tickAll s.quiet, event_running tickAll h, rfl, fun m => ?_, fun d => ?_, ?_⟩ <;> rw [ticks]
  · exact tickAll_claim s.quiet m
  · exact tickAll_device s.quiet d
  · change { s.port with condition := s.port.condition.tick } = _
    cases s.port.condition <;> rfl

/-! ## The expiry of an idle timer (R67) -/

theorem exec_idleTimerExpiry {s : State} {d : Device} (h : s.inReset = false) (hr : (s.device d).residency = .on)
    (ht : timerDue (s.device d).idleTimer = true) : exec (.idleTimerExpiry d) s = .next (endIdle d s.quiet) := by
  rw [exec, execIdleTimerExpiry, event_running _ h]
  exact congrArg Host.Outcome.next (if_pos ⟨hr, ht⟩)

/-- Settles O22: the two branches of `endIdle`, and `hasWork_iff` for which is taken. -/
theorem idleExpiryParksAnUnusedDevice : Obligations.IdleExpiryParksAnUnusedDevice := by
  intro s d h hr ht work
  have busy : hasWork s.quiet d = true ↔ work := hasWork_iff s.quiet d
  rw [exec_idleTimerExpiry h hr ht]
  exact ⟨fun hw => congrArg Host.Outcome.next (if_pos (busy.mpr hw)),
    fun hw => congrArg Host.Outcome.next (if_neg (mt busy.mp hw))⟩

/-! ## The device commands -/

section
variable {s : State} (h : s.inReset = false) (hb : s.port.busy = false)
include h hb

theorem exec_defineDevice (b w : Byte) (l : BitVec 16) (o : Byte) :
    exec (.defineDevice b w l o) s = .next (cmdDefineDevice b w l o (takeCommandByte s.quiet)) :=
  event_sendWhole _ _ h hb

theorem exec_forgetDevice (b : Byte) :
    exec (.forgetDevice b) s = .next (withDevice b forgetDevice (takeCommandByte s.quiet)) :=
  event_sendWhole _ _ h hb

theorem exec_wakeDevice (b : Byte) :
    exec (.wakeDevice b) s = .next (withDevice b wakeDevice (takeCommandByte s.quiet)) :=
  event_sendWhole _ _ h hb

theorem exec_parkDevice (b : Byte) :
    exec (.parkDevice b) s = .next (withDevice b parkDevice (takeCommandByte s.quiet)) :=
  event_sendWhole _ _ h hb

theorem exec_clearFault (b : Byte) :
    exec (.clearFault b) s = .next (withDevice b clearFault (takeCommandByte s.quiet)) :=
  event_sendWhole _ _ h hb

end

theorem withDevice_inRange {b : Byte} {d : Device} (h : b.toNat = d.val) (run : Device → State → State) (s : State) :
    withDevice b run s = run d s := by
  rw [withDevice, readFin_some h]

theorem withDevice_outOfRange {b : Byte} (h : 16 ≤ b.toNat) (run : Device → State → State) (s : State) :
    withDevice b run s = reply [0x02#8] s := by
  rw [withDevice, readFin_none h]; rfl

/-! ## DEFINE DEVICE (R60, R162) -/

/-- The parameters of DEFINE DEVICE that Table 10-2 admits. -/
def DefineInRange (b w : Byte) (l : BitVec 16) (o : Byte) : Prop :=
  b.toNat < 16 ∧ 1 ≤ w.toNat ∧ w.toNat ≤ 250 ∧ l.toNat ≤ 60000 ∧ o.toNat < 6

theorem cmdDefineDevice_outOfRange {b w : Byte} {l : BitVec 16} {o : Byte} (h : ¬ DefineInRange b w l o) (s : State) :
    cmdDefineDevice b w l o s = reply [0x02#8] s := by
  unfold cmdDefineDevice; split
  · next hb hw hl ho =>
    refine absurd ?_ h
    rw [readFin_eq_some] at hb
    rw [readTicks, Option.ite_none_right_eq_some] at hw
    rw [readIdleLimit, Option.ite_none_right_eq_some] at hl
    rw [readDeviceOptions_eq, Option.ite_none_right_eq_some] at ho
    exact ⟨by omega, hw.1.1, hw.1.2, hl.1, ho.1⟩
  · rfl

theorem cmdDefineDevice_inRange {b w : Byte} {l : BitVec 16} {o : Byte} (h : DefineInRange b w l o) {d : Device}
    (hd : b.toNat = d.val) (s : State) : cmdDefineDevice b w l o s =
      if (s.device d).residency = .absent ∨ (s.device d).residency = .off then
        reply [0x00#8] (s.setDevice d ((s.device d).define w.toNat l.toNat (decide (o.toNat % 2 = 1))
          (if o.toNat < 2 then .ignore else if o.toNat < 4 then .high else .low)))
      else reply [0x09#8] s := by
  obtain ⟨_, hw, hw', hl, ho⟩ := h
  simp only [cmdDefineDevice, readFin_some hd, readTicks, hw, hw', and_self, if_true, readIdleLimit, hl,
    readDeviceOptions_eq, ho]
  cases (s.device d).residency <;> rfl

/-- Settles O32: `cmdDefineDevice` in its range and out of it. -/
theorem defineDeviceWritesTheParameters : Obligations.DefineDeviceWritesTheParameters := by
  intro s b w l o h hb s₀ inRange
  rw [exec_defineDevice h hb]
  refine ⟨fun hr d hd => ?_, fun hr => by rw [cmdDefineDevice_outOfRange hr]⟩
  have device : s₀.device d = s.device d := takeCommandByte_device _ d
  rw [cmdDefineDevice_inRange hr hd, device]
  refine ⟨fun hx => ?_, fun ha ho => by rw [if_neg (by tauto)]⟩
  rw [if_pos hx, State.setDevice, takeCommandByte_devices]
  rfl

/-! ## The commands with the one parameter `device`, by residency -/

section
variable {s : State} {d : Device}

theorem forgetDevice_taken (hr : (s.device d).residency = .off ∨ (s.device d).residency = .fault)
    (h0 : (s.device d).refCount = 0) :
    forgetDevice d s = reply [0x00#8] (s.setDevice d (s.device d).forget) := by
  unfold forgetDevice
  rcases hr with hr | hr <;> rw [hr] <;> exact if_pos h0

theorem forgetDevice_inUse (hr : (s.device d).residency = .off ∨ (s.device d).residency = .fault)
    (h0 : (s.device d).refCount ≠ 0) : forgetDevice d s = reply [0x06#8] s := by
  unfold forgetDevice
  rcases hr with hr | hr <;> rw [hr] <;> exact if_neg h0

theorem forgetDevice_wrongState (ho : (s.device d).residency ≠ .off) (hf : (s.device d).residency ≠ .fault) :
    forgetDevice d s = reply [0x09#8] s := by
  unfold forgetDevice; split
  · next h => exact absurd h ho
  · next h => exact absurd h hf
  all_goals rfl

theorem clearFault_taken (hr : (s.device d).residency = .fault) : clearFault d s =
    reply [0x00#8] (s.setDevice d { s.device d with residency := .off, faultCause := .none }) := by
  unfold clearFault; rw [hr]; rfl

theorem clearFault_wrongState (hr : (s.device d).residency ≠ .fault) : clearFault d s = reply [0x09#8] s := by
  unfold clearFault; split
  · next h => exact absurd h hr
  all_goals rfl

theorem wakeDevice_off (hr : (s.device d).residency = .off) : wakeDevice d s = reply [0x00#8] (startWake d s) := by
  unfold wakeDevice; rw [hr]; rfl

theorem wakeDevice_left (hr : (s.device d).residency = .waking ∨ (s.device d).residency = .on) :
    wakeDevice d s = reply [0x00#8] s := by
  unfold wakeDevice
  rcases hr with hr | hr <;> rw [hr] <;> rfl

theorem wakeDevice_parking (hr : (s.device d).residency = .parking) :
    wakeDevice d s = reply [0x00#8] (enterOn d s) := by
  unfold wakeDevice; rw [hr]; rfl

theorem wakeDevice_wrongState (hr : (s.device d).residency = .fault ∨ (s.device d).residency = .absent) :
    wakeDevice d s = reply [0x09#8] s := by
  unfold wakeDevice
  rcases hr with hr | hr <;> rw [hr] <;> rfl

theorem parkDevice_unused (hr : (s.device d).residency = .on) (hw : hasWork s d = false) :
    parkDevice d s = reply [0x00#8] (powerOff d s) := by
  unfold parkDevice; rw [hr]; exact if_neg (by simp [hw])

theorem parkDevice_working (hr : (s.device d).residency = .on) (hw : hasWork s d = true) :
    parkDevice d s = reply [0x00#8] (s.setDevice d { s.device d with residency := .parking, idleTimer := none }) := by
  unfold parkDevice; rw [hr]; exact if_pos hw

theorem parkDevice_abandons (hr : (s.device d).residency = .waking) (h0 : (s.device d).heldCount = 0) :
    parkDevice d s = reply [0x00#8] (powerOff d s) := by
  unfold parkDevice; rw [hr]; exact if_pos h0

theorem parkDevice_held (hr : (s.device d).residency = .waking) (h0 : (s.device d).heldCount ≠ 0) :
    parkDevice d s = reply [0x09#8] s := by
  unfold parkDevice; rw [hr]; exact if_neg h0

theorem parkDevice_left (hr : (s.device d).residency = .parking ∨ (s.device d).residency = .off) :
    parkDevice d s = reply [0x00#8] s := by
  unfold parkDevice
  rcases hr with hr | hr <;> rw [hr] <;> rfl

theorem parkDevice_wrongState (hr : (s.device d).residency = .fault ∨ (s.device d).residency = .absent) :
    parkDevice d s = reply [0x09#8] s := by
  unfold parkDevice
  rcases hr with hr | hr <;> rw [hr] <;> rfl

end

/-- A record written after the command byte. -/
theorem setDevice_afterByte (s : State) (d : Device) (r : DeviceRecord) :
    (takeCommandByte s.quiet).setDevice d r = { takeCommandByte s.quiet with devices := s.devices.set d r } := by
  rw [State.setDevice, takeCommandByte_devices]; rfl

/-- Settles O33: the command byte leaves the devices, and each residency has its equation. -/
theorem forgetAndClearFaultFollowTheResidency : Obligations.ForgetAndClearFaultFollowTheResidency := by
  intro s b h hb s₀
  rw [exec_forgetDevice h hb, exec_clearFault h hb]
  refine ⟨?_, fun hr => by rw [withDevice_outOfRange hr, withDevice_outOfRange hr]; exact ⟨rfl, rfl⟩⟩
  intro d hd r
  have device : s₀.device d = r := takeCommandByte_device _ d
  rw [withDevice_inRange hd, withDevice_inRange hd, ← setDevice_afterByte, ← setDevice_afterByte, ← device]
  refine ⟨fun hr h0 => ?_, fun hr h0 => ?_, fun ho hf => ?_, fun hr => ?_, fun hr => ?_⟩
  · rw [forgetDevice_taken hr h0]; rfl
  · rw [forgetDevice_inUse hr (by omega)]
  · rw [forgetDevice_wrongState ho hf]
  · rw [clearFault_taken hr]
  · rw [clearFault_wrongState hr]

/-- Settles O34: each residency by its equation, and for a PARKING device the entry to ON. -/
theorem wakeDeviceFollowsTheResidency : Obligations.WakeDeviceFollowsTheResidency := by
  intro s b h hb s₀
  rw [exec_wakeDevice h hb]
  refine ⟨?_, fun hr => by rw [withDevice_outOfRange hr]⟩
  intro d hd r
  have device : s₀.device d = r := takeCommandByte_device _ d
  rw [withDevice_inRange hd, ← setDevice_afterByte, ← device]
  refine ⟨fun hr => ?_, fun hr => ?_, fun hr => ?_, fun hr => ?_⟩
  · rw [wakeDevice_off hr]; rfl
  · rw [wakeDevice_left hr]
  · have frame := enterOn_eq d s₀
    have bound : boundTo s₀ d = boundTo s d := takeCommandByte_boundTo s.quiet d
    rw [bound, takeCommandByte_holdList, takeCommandByte_readyList, takeCommandByte_devices] at frame
    refine ⟨enterOn d s₀, by rw [wakeDevice_parking hr], frame, fun m => ?_⟩
    rw [enterOn_claim, bound, takeCommandByte_holdList, takeCommandByte_claim]
    simp only [List.mem_filter]
    rfl
  · rw [wakeDevice_wrongState hr]

/-- Settles O35: each residency by its equation, with `hasWork_iff` for the claims of an ON device. -/
theorem parkDeviceFollowsTheResidency : Obligations.ParkDeviceFollowsTheResidency := by
  intro s b h hb s₀
  rw [exec_parkDevice h hb]
  refine ⟨?_, fun hr => by rw [withDevice_outOfRange hr]⟩
  intro d hd r work off
  have device : s₀.device d = r := takeCommandByte_device _ d
  have busy : hasWork s₀ d = true ↔ work := by
    rw [takeCommandByte_hasWork, quiet_hasWork]; exact hasWork_iff s d
  have powered_off : off = .next (reply [0x00#8] (powerOff d s₀)) := by
    rw [powerOff, device, setDevice_afterByte]
  rw [withDevice_inRange hd, powered_off, ← setDevice_afterByte, ← device]
  refine ⟨fun hr hw => ?_, fun hr hw => ?_, fun hr h0 => ?_, fun hr h0 => ?_, fun hr => ?_, fun hr => ?_⟩
  · rw [parkDevice_unused hr (Bool.eq_false_of_not_eq_true (mt busy.mp hw))]
  · rw [parkDevice_working hr (busy.mpr hw)]
  · rw [parkDevice_abandons hr h0]
  · rw [parkDevice_held hr (by omega)]
  · rw [parkDevice_left hr]
  · rw [parkDevice_wrongState hr]

end Sys2Proof.Machine
end

section
/-! PROOF. The expiry of a hold timer (O18) and SET LIMITS (O49). -/

namespace Sys2Proof.Machine

/-! ## The expiry of a hold timer (R87) -/

/-- A cycle of another master goes on. -/
theorem filter_master_ne {cycle : Option DeviceCycle} {m : Master} (h : cycle.map DeviceCycle.master ≠ some m) :
    (cycle.filter fun c => decide (c.master ≠ m)) = cycle := by
  cases cycle with
  | none => rfl
  | some cy => exact Option.filter_some_pos (decide_eq_true fun e => h (congrArg some e))

/-- The answer of a HELD claim takes it out of the hold list and leaves the other places alone (R29, R39). -/
theorem answerClaim_held {s : State} (hp : PlacesLaw s) {m : Master} (hm : s.phaseOf m = some .held) (a : Access)
    (r : Reason) (x : DataWord) : answerClaim m a r x s = { s with
      answers := s.answers ++ [{ master := m, reason := r, data := x }]
      claims := s.claims.set m none
      holdList := s.holdList.filter fun k => decide (k ≠ m)
      slots := (answerClaim m a r x s).slots
      devices := (answerClaim m a r x s).devices } := by
  obtain ⟨_, places⟩ := (placesLaw_iff s).mp hp
  have caught : m ∉ s.interceptList := by rw [(places m).intercept, hm]; simp
  have ready : m ∉ s.readyList := by rw [(places m).ready, hm]; simp
  have bus : s.cycle.map DeviceCycle.master ≠ some m := by rw [Ne, ← (places m).active, hm]; simp
  have frame := answerClaim_frame m a r x s
  rw [filter_ne_of_notMem caught, filter_ne_of_notMem ready, filter_master_ne bus] at frame
  exact frame

/-- The answer of a HELD claim lowers the held count of its device and, if it frees a slot, the reference count of the
slot's device (R44, R56). -/
theorem answerClaim_held_device {s : State} (hp : PlacesLaw s) {m : Master} (hm : s.phaseOf m = some .held) (a : Access)
    (r : Reason) (x : DataWord) (d : Device) : (answerClaim m a r x s).device d = { s.device d with
      refCount := (s.device d).refCount - (if freesSlotOf s a.binding d then 1 else 0)
      heldCount := (s.device d).heldCount - if d = a.device then 1 else 0 } := by
  obtain ⟨_, places⟩ := (placesLaw_iff s).mp hp
  have held : m ∈ s.holdList := (places m).held.mpr hm
  rw [answerClaim_device, deviceAfterAnswer]
  simp only [held, true_and, eq_comm]

theorem exec_holdTimerExpiry {s : State} {m : Master} {c : Claim} (h : s.inReset = false) (hm : s.claim m = some c)
    (hc : c.phase = .held) (ht : timerDue c.timer = true) : exec (.holdTimerExpiry m) s =
      .next (raise .timeout (answerClaim m c.access .holdTimeout 0#32 s.quiet)) := by
  simp [exec, execHoldTimerExpiry, event_running _ h, hm, hc, ht]

/-- Settles O18: the expiry is the answer of the HELD claim, and then the TIMEOUT cause. -/
theorem holdExpiryAnswersHoldTimeout : Obligations.HoldExpiryAnswersHoldTimeout := by
  intro s m c h hp hm hc ht
  have places : PlacesLaw s.quiet := hp
  have held : s.quiet.phaseOf m = some .held := (phaseOf_some hm).trans (congrArg some hc)
  refine ⟨_, exec_holdTimerExpiry h hm hc ht, ?_, fun n => ?_, fun d => ?_⟩
  · have frame := answerClaim_held places held c.access .holdTimeout 0#32
    generalize answerClaim m c.access .holdTimeout 0#32 s.quiet = u at frame
    rw [frame]; rfl
  · exact answerClaim_slot m c.access .holdTimeout 0#32 s.quiet n
  · exact answerClaim_held_device places held c.access .holdTimeout 0#32 d

/-! ## The limits (R80, R97, R174) -/

theorem readTicks_eq_some {b : Byte} {n : Nat} :
    readTicks b = some n ↔ (1 ≤ b.toNat ∧ b.toNat ≤ 250) ∧ b.toNat = n := by
  rw [readTicks, Option.ite_none_right_eq_some, Option.some.injEq]

theorem exec_setLimits {s : State} (b i : Byte) (h : s.inReset = false) (hb : s.port.busy = false) :
    exec (.setLimits b i) s = .next (cmdSetLimits b i (takeCommandByte s.quiet)) :=
  event_sendWhole _ _ h hb

theorem cmdSetLimits_inRange {b i : Byte} (hb : 1 ≤ b.toNat ∧ b.toNat ≤ 250) (hi : 1 ≤ i.toNat ∧ i.toNat ≤ 250)
    (s : State) : cmdSetLimits b i s = reply [0x00#8] { s with holdLimit := b.toNat, interceptLimit := i.toNat } := by
  rw [cmdSetLimits, readTicks_eq_some.mpr ⟨hb, rfl⟩, readTicks_eq_some.mpr ⟨hi, rfl⟩]
  rfl

/-- One limit out of range suffices: neither is written. -/
theorem cmdSetLimits_outOfRange {b i : Byte}
    (h : ¬ ((1 ≤ b.toNat ∧ b.toNat ≤ 250) ∧ (1 ≤ i.toNat ∧ i.toNat ≤ 250))) (s : State) :
    cmdSetLimits b i s = reply [0x02#8] s := by
  unfold cmdSetLimits; split
  · next hb hi => exact absurd ⟨(readTicks_eq_some.mp hb).1, (readTicks_eq_some.mp hi).1⟩ h
  · rfl

/-- Settles O49: `cmdSetLimits` in its range and out of it, after the command byte. -/
theorem setLimitsWritesBothOrNeither : Obligations.SetLimitsWritesBothOrNeither := by
  intro s b i h hb s₀ inRange
  rw [exec_setLimits b i h hb]
  exact ⟨fun ⟨hold, intercept⟩ => by rw [cmdSetLimits_inRange hold intercept],
    fun out => by rw [cmdSetLimits_outOfRange out]⟩

end Sys2Proof.Machine
end

section
/-! PROOF. The expiry of an intercept timer (O19), INTERCEPT INFO (O45) and the verdicts (O46, O47). -/

namespace Sys2Proof.Machine

/-! ## The answer of a caught claim (R95, R103 to R105) -/

/-- The answer of a caught claim takes it out of the intercept list and leaves the other places alone (R29, R95). -/
theorem answerClaim_intercepted {s : State} (hp : PlacesLaw s) {m : Master} (hm : s.phaseOf m = some .intercept)
    (a : Access) (r : Reason) (x : DataWord) : answerClaim m a r x s = { s with
      answers := s.answers ++ [{ master := m, reason := r, data := x }]
      claims := s.claims.set m none
      interceptList := s.interceptList.filter fun k => decide (k ≠ m)
      slots := (answerClaim m a r x s).slots
      devices := (answerClaim m a r x s).devices } := by
  obtain ⟨_, places⟩ := (placesLaw_iff s).mp hp
  have held : m ∉ s.holdList := by rw [(places m).held, hm]; simp
  have ready : m ∉ s.readyList := by rw [(places m).ready, hm]; simp
  have bus : s.cycle.map DeviceCycle.master ≠ some m := by rw [Ne, ← (places m).active, hm]; simp
  have frame := answerClaim_frame m a r x s
  rw [filter_ne_of_notMem held, filter_ne_of_notMem ready, filter_master_ne bus] at frame
  exact frame

/-- The answer of a caught claim leaves every held count, since the claim was in no hold list (R56). -/
theorem answerClaim_intercepted_device {s : State} (hp : PlacesLaw s) {m : Master}
    (hm : s.phaseOf m = some .intercept) (a : Access) (r : Reason) (x : DataWord) (d : Device) :
    (answerClaim m a r x s).device d = { s.device d with
      refCount := (s.device d).refCount - if freesSlotOf s a.binding d then 1 else 0 } := by
  obtain ⟨_, places⟩ := (placesLaw_iff s).mp hp
  have held : m ∉ s.holdList := by rw [(places m).held, hm]; simp
  exact answerClaim_nowhere_device a r x held d

/-- An answer empties the claim record, so what was written into it before leaves no trace. -/
theorem answerClaim_setClaim (m : Master) (a : Access) (r : Reason) (x : DataWord) (c : Option Claim) (s : State) :
    answerClaim m a r x (s.setClaim m c) = answerClaim m a r x s := by
  have left : leavePlace m a.device (s.setClaim m c) = (leavePlace m a.device s).setClaim m c := by
    rw [leavePlace, leavePlace, setClaim_holdList]; split <;> rfl
  have given : ∀ t : State, giveAnswer m r x (t.setClaim m c) = giveAnswer m r x t := fun t => by
    rw [giveAnswer, setClaim_answers, State.setClaim, vector_set_same]; rfl
  rw [answerClaim, left, given, answerClaim]

/-! ## The expiry of an intercept timer (R105) -/

theorem exec_interceptTimerExpiry {s : State} {m : Master} {c : Claim} (h : s.inReset = false)
    (hm : s.claim m = some c) (hc : c.phase = .intercept) (ht : timerDue c.timer = true) :
    exec (.interceptTimerExpiry m) s =
      .next (raise .timeout ((answerClaim m c.access .interceptTimeout 0#32 s.quiet).setMarker m true)) := by
  simp [exec, execInterceptTimerExpiry, event_running _ h, hm, hc, ht]

/-- Settles O19: the expiry is the answer of the caught claim, and then the marker and the TIMEOUT cause. -/
theorem interceptExpirySetsTheMarker : Obligations.InterceptExpirySetsTheMarker := by
  intro s m c h hp hm hc ht
  have places : PlacesLaw s.quiet := hp
  have caught : s.quiet.phaseOf m = some .intercept := (phaseOf_some hm).trans (congrArg some hc)
  refine ⟨_, exec_interceptTimerExpiry h hm hc ht, ?_, fun n => ?_, fun d => ?_⟩
  · have frame := answerClaim_intercepted places caught c.access .interceptTimeout 0#32
    generalize answerClaim m c.access .interceptTimeout 0#32 s.quiet = u at frame
    rw [frame]; rfl
  · exact answerClaim_slot m c.access .interceptTimeout 0#32 s.quiet n
  · exact answerClaim_intercepted_device places caught c.access .interceptTimeout 0#32 d

/-! ## INTERCEPT INFO (R100, R171) -/

theorem exec_interceptInfo {s : State} (h : s.inReset = false) (hb : s.port.busy = false) :
    exec .interceptInfo s = .next (cmdInterceptInfo (takeCommandByte s.quiet)) :=
  event_sendWhole _ _ h hb

theorem cmdInterceptInfo_empty {s : State} (h : s.interceptList = []) : cmdInterceptInfo s = reply [0x0B#8] s := by
  rw [cmdInterceptInfo, h]; rfl

theorem cmdInterceptInfo_head {s : State} {m : Master} {rest : List Master} {c : Claim}
    (h : s.interceptList = m :: rest) (hm : s.claim m = some c) :
    cmdInterceptInfo s = reply (interceptReply m c) s := by
  rw [cmdInterceptInfo, h]
  simp only [hm]

/-- Table 10-2, direction. -/
theorem directionByte_eq (dir : Direction) : directionByte dir = if dir = .read then 0x00#8 else 0x01#8 := by
  cases dir <;> rfl

/-- The reply byte by byte, for a claim bound to a slot (R100). -/
theorem interceptReply_slot {m : Master} {c : Claim} {n : SlotId} {g : Generation}
    (h : c.access.binding = .slot n g) : interceptReply m c =
      [0x00#8, BitVec.ofNat 8 m.val, if c.access.direction = .read then 0x00#8 else 0x01#8,
        BitVec.ofNat 8 c.access.width.bytes, c.access.address.extractLsb' 0 8, c.access.address.extractLsb' 8 8,
        c.access.address.extractLsb' 16 8] ++
        (c.access.writeData.getD [] ++ List.replicate (4 - (c.access.writeData.getD []).length) 0x00#8) ++
        [BitVec.ofNat 8 n.val, BitVec.ofNat 8 g.val, BitVec.ofNat 8 (timerLeft c.timer)] := by
  rw [interceptReply, h, directionByte_eq, List.append_assoc _ (bindingBytes _)]
  rfl

/-- Settles O45: the command byte leaves the intercept list and the claims, and the reply is that of the head. -/
theorem interceptInfoReportsTheHead : Obligations.InterceptInfoReportsTheHead := by
  intro s h hb s₀
  have list : s₀.interceptList = s.interceptList := takeCommandByte_interceptList _
  have claim : ∀ m, s₀.claim m = s.claim m := takeCommandByte_claim _
  rw [exec_interceptInfo h hb]
  refine ⟨fun hl => ?_, fun m rest c n g hl hm hn => ?_⟩
  · rw [cmdInterceptInfo_empty (list.trans hl)]
  · rw [cmdInterceptInfo_head (list.trans hl) ((claim m).trans hm), interceptReply_slot hn]

/-! ## The verdicts (R101 to R104, R172) -/

/-- The command that sends a verdict whole. -/
def Verdict.command (v : Verdict) (master : Byte) (data : DataWord) : Instr :=
  match v with
  | .pass => .verdictPass master data
  | .refuse => .verdictRefuse master data
  | .supply => .verdictSupply master data

theorem exec_verdict {s : State} (v : Verdict) (b : Byte) (x : DataWord) (h : s.inReset = false)
    (hb : s.port.busy = false) : exec (v.command b x) s = .next (cmdVerdict v b x (takeCommandByte s.quiet)) := by
  cases v with
  | pass => exact event_sendWhole _ _ h hb
  | refuse => exact event_sendWhole _ _ h hb
  | supply => exact event_sendWhole _ _ h hb

theorem cmdVerdict_outOfRange {b : Byte} (hb : 4 ≤ b.toNat) (v : Verdict) (x : DataWord) (s : State) :
    cmdVerdict v b x s = reply [0x02#8] s := by
  rw [cmdVerdict, readFin_none hb]; rfl

theorem cmdVerdict_caught {s : State} {b : Byte} {m : Master} {c : Claim} (hb : b.toNat = m.val)
    (hl : m ∈ s.interceptList) (hm : s.claim m = some c) (v : Verdict) (x : DataWord) :
    cmdVerdict v b x s = reply [0x00#8] (applyVerdict v m c x s) := by
  have caught : caughtClaim s m = some c := (if_pos hl).trans hm
  rw [cmdVerdict, readFin_some hb]
  simp only [takeVerdict, caught]
  rfl

/-- The marker alone tells a late verdict from one that nothing has asked for (R101). -/
theorem cmdVerdict_uncaught {s : State} {b : Byte} {m : Master} (hb : b.toNat = m.val) (hl : m ∉ s.interceptList)
    (v : Verdict) (x : DataWord) :
    cmdVerdict v b x s = reply [if s.marker m then 0x0C#8 else 0x0B#8] s := by
  have caught : caughtClaim s m = none := if_neg hl
  rw [cmdVerdict, readFin_some hb]
  simp only [takeVerdict, caught]
  cases s.marker m <;> rfl

/-- SUPPLY is an answer: the verdict data stay in the record only until the answer empties it (R104). -/
theorem applySupply_eq (m : Master) (c : Claim) (x : DataWord) (s : State) : applySupply m c x s =
    answerClaim m c.access .supplied (answerData c.access.direction c.access.width x) s :=
  answerClaim_setClaim ..

/-- Settles O46: the three verdicts on the state that the command byte leaves, two of them answers. -/
theorem verdictsAreAppliedToCaughtClaims : Obligations.VerdictsAreAppliedToCaughtClaims := by
  intro s b x m c h hb hp hbm hm hc s₀ left answered
  have list : s₀.interceptList = s.interceptList := takeCommandByte_interceptList _
  have claim : s₀.claim m = some c := (takeCommandByte_claim _ m).trans hm
  have slot : ∀ n, s₀.slot n = s.slot n := takeCommandByte_slot _
  have device : ∀ d, s₀.device d = s.device d := takeCommandByte_device _
  have places : PlacesLaw s₀ :=
    PlacesLaw.of_sameRecords (s := s.quiet) hp (sameRecords_takeCommandByte (s := s.quiet) hb)
  have caught : s₀.phaseOf m = some .intercept := (phaseOf_some claim).trans (congrArg some hc)
  have listed : m ∈ s₀.interceptList := (((placesLaw_iff s₀).mp places).2 m).intercept.mpr caught
  have gives : ∀ reason data, answered reason data (answerClaim m c.access reason data s₀) := by
    intro reason data
    refine ⟨?_, fun n => ?_, fun d => ?_⟩
    · have frame := answerClaim_intercepted places caught c.access reason data
      rwa [takeCommandByte_answers, takeCommandByte_claims, list] at frame
    · rw [answerClaim_slot, slotAfterAnswer, slot]; rfl
    · have frees : freesSlotOf s₀ c.access.binding d = freesSlotOf s c.access.binding d := by
        unfold freesSlotOf; simp only [slot]
      rw [answerClaim_intercepted_device places caught, device, frees]
  have taken : ∀ v : Verdict, exec (v.command b x) s = .next (reply [0x00#8] (applyVerdict v m c x s₀)) := fun v => by
    rw [exec_verdict v b x h hb, cmdVerdict_caught hbm listed claim]
  refine ⟨?_, ⟨_, taken .refuse, gives _ _⟩, ⟨_, _, ?_, gives _ _, answerData_lane _ _ x⟩⟩
  · have pass := taken .pass
    rwa [applyVerdict, applyPass, list] at pass
  · rw [← applySupply_eq]; exact taken .supply

/-! ## The bytes of a command sent one by one (R150, R152) -/

/-- A new condition of the port, its error fields left as they are (R148). -/
def State.withCondition (x : PortCondition) (s : State) : State := { s with port := { s.port with condition := x } }

theorem withCondition_condition (x : PortCondition) (s : State) : (s.withCondition x).port.condition = x := rfl

theorem withCondition_quiet (x : PortCondition) (s : State) : (s.withCondition x).quiet = s.quiet.withCondition x := rfl

theorem withCondition_withCondition (x y : PortCondition) (s : State) :
    (s.withCondition x).withCondition y = s.withCondition y := rfl

theorem reply_withCondition (bs : List Byte) (x : PortCondition) (s : State) :
    reply bs (s.withCondition x) = reply bs s := rfl

theorem quiet_quiet (s : State) : s.quiet.quiet = s.quiet := rfl

/-- The command byte gives no output of its own. -/
theorem takeCommandByte_quiet (s : State) : (takeCommandByte s).quiet = takeCommandByte s.quiet := by
  rw [takeCommandByte_eq, takeCommandByte_eq]; rfl

theorem exec_commandByte_opens {s : State} {b : Byte} {code : CommandCode} (h : s.inReset = false)
    (hb : s.port.busy = false) (hc : CommandCode.ofByte b = some code) (hn : 0 < code.paramCount) :
    exec (.commandByte b) s = .next ((takeCommandByte s.quiet).withCondition (.collecting code [])) := by
  have opens : openRecord b s.quiet = (takeCommandByte s.quiet).withCondition (.collecting code []) := by
    rw [openRecord, hc]; exact if_neg (by omega)
  have taken : writeCommand b s.quiet = openRecord b s.quiet := by
    unfold writeCommand; split
    · next hq => rw [Port.busy, ← quiet_port, hq] at hb; cases hb
    all_goals rfl
  rw [exec, execCommandByte, event_running _ h, taken, opens]

theorem exec_parameterByte {s : State} {code : CommandCode} {ps : List Byte} (h : s.inReset = false)
    (hs : s.port.condition = .collecting code ps) (b : Byte) :
    exec (.parameterByte b) s = .next (addParameter code ps b s.quiet) := by
  have condition : s.quiet.port.condition = .collecting code ps := hs
  rw [exec, execParameterByte, event_running _ h, writeData, condition]

theorem addParameter_more {code : CommandCode} {ps : List Byte} (hn : ps.length + 1 < code.paramCount) (b : Byte)
    (s : State) : addParameter code ps b s = s.withCondition (.collecting code (ps ++ [b])) :=
  if_neg (by omega)

theorem addParameter_last {code : CommandCode} {ps : List Byte} (hn : ps.length + 1 = code.paramCount) (b : Byte)
    (s : State) : addParameter code ps b s = runRecord code (ps ++ [b]) (s.withCondition .idle) :=
  if_pos (by omega)

theorem runAll_cons {c : Instr} {rest : List Instr} {s t : State} (h : exec c s = .next t) :
    runAll (c :: rest) s = runAll rest t := by
  rw [runAll, h]

/-- The parameter bytes that a record still lacks, sent one after another, hand the whole record to the decoder. -/
theorem runAll_parameterBytes {code : CommandCode} {b : Byte} {bs ps : List Byte} {s : State} (h : s.inReset = false)
    (hs : s.port.condition = .collecting code ps) (hn : ps.length + (b :: bs).length = code.paramCount) :
    runAll ((b :: bs).map .parameterByte) s =
      .next (runRecord code (ps ++ b :: bs) (s.quiet.withCondition .idle)) := by
  induction bs generalizing b ps s with
  | nil => rw [List.map_cons, runAll_cons (exec_parameterByte h hs b), addParameter_last hn]; rfl
  | cons b' bs ih =>
    have short : ps.length + 1 < code.paramCount := by simp only [List.length_cons] at hn; omega
    have rest : (ps ++ [b]).length + (b' :: bs).length = code.paramCount := by
      simp only [List.length_append, List.length_cons, List.length_nil] at hn ⊢; omega
    rw [List.map_cons, runAll_cons (exec_parameterByte h hs b), addParameter_more short,
      ih (s := s.quiet.withCondition _) h (withCondition_condition ..) rest, withCondition_quiet,
      withCondition_withCondition, quiet_quiet, List.append_assoc, List.singleton_append]

/-! ## Verdicts that are refused (R101, R106, R172) -/

/-- A record of VERDICT whose verdict byte is above 02h replies BAD_VALUE and changes nothing else. -/
theorem runRecord_verdict_outOfRange {v : Byte} (hv : 3 ≤ v.toNat) (b d0 d1 d2 d3 : Byte) (s : State) :
    runRecord .verdict [b, v, d0, d1, d2, d3] s = reply [0x02#8] s :=
  cmdVerdictByte_out_of_range b _ s hv

/-- The bytes of a VERDICT sent one after another whose verdict byte is above 02h. -/
theorem runAll_verdict_outOfRange {s : State} {v : Byte} (h : s.inReset = false) (hb : s.port.busy = false)
    (hv : 3 ≤ v.toNat) (b d0 d1 d2 d3 : Byte) :
    runAll (.commandByte 0x41#8 :: [b, v, d0, d1, d2, d3].map .parameterByte) s =
      .next (reply [0x02#8] (takeCommandByte s.quiet)) := by
  have running : ((takeCommandByte s.quiet).withCondition (.collecting .verdict [])).inReset = false :=
    (takeCommandByte_inReset _).trans h
  rw [runAll_cons (exec_commandByte_opens (code := .verdict) h hb rfl (by decide)),
    runAll_parameterBytes running (withCondition_condition ..) rfl, List.nil_append,
    runRecord_verdict_outOfRange hv, reply_withCondition, withCondition_quiet, reply_withCondition,
    takeCommandByte_quiet, quiet_quiet]

/-- Settles O47: a verdict without its claim or its master's number, and a record with a verdict byte above 02h,
finished by its last byte and sent whole. -/
theorem verdictsWithoutACaughtClaim : Obligations.VerdictsWithoutACaughtClaim := by
  refine ⟨fun s b x c h hb hc => ?_, fun s b v d0 d1 d2 d3 h hv hs => ?_, fun s b v d0 d1 d2 d3 h hb hv => ?_⟩
  · obtain ⟨v, rfl⟩ : ∃ v : Verdict, c = v.command b x := by
      simp only [List.mem_cons, List.not_mem_nil, or_false] at hc
      rcases hc with hc | hc | hc
      exacts [⟨.pass, hc⟩, ⟨.refuse, hc⟩, ⟨.supply, hc⟩]
    intro s₀
    have list : s₀.interceptList = s.interceptList := takeCommandByte_interceptList _
    have marker : ∀ m, s₀.marker m = s.marker m := takeCommandByte_marker _
    rw [exec_verdict v b x h hb]
    refine ⟨fun hr => ?_, fun m hm hl => ?_⟩
    · rw [cmdVerdict_outOfRange hr]
    · rw [cmdVerdict_uncaught hm (by rwa [list]), marker]
  · rw [exec_parameterByte h hs, addParameter_last rfl]
    exact congrArg Host.Outcome.next (runRecord_verdict_outOfRange hv b d0 d1 d2 d3 (s.quiet.withCondition .idle))
  · exact runAll_verdict_outOfRange h hb hv b d0 d1 d2 d3

end Sys2Proof.Machine
end

section
/-! PROOF. The changes of the directory under traffic: AMEND WINDOW (O38), RETIRE WINDOW (O39), the switch of a publish
(O41), its conflict report (O42) and DISCARD (O43). -/

namespace Sys2Proof.Machine

/-! ## The commands -/

section
variable {s : State} (h : s.inReset = false) (hb : s.port.busy = false)
include h hb

theorem exec_amendWindow (b e p w g v : Byte) :
    exec (.amendWindow b e p w g v) s = .next (cmdAmendWindow b e p w g v (takeCommandByte s.quiet)) :=
  event_sendWhole _ _ h hb

theorem exec_retireWindow (b e x : Byte) :
    exec (.retireWindow b e x) s = .next (cmdRetireWindow b e x (takeCommandByte s.quiet)) :=
  event_sendWhole _ _ h hb

theorem exec_publish : exec .publish s = .next (cmdPublish (takeCommandByte s.quiet)) :=
  event_sendWhole _ _ h hb

theorem exec_discard : exec .discard s = .next (cmdDiscard (takeCommandByte s.quiet)) :=
  event_sendWhole _ _ h hb

end

/-! ## The checks that an amendment and a retirement share (R113, R166, R167) -/

/-- The expected generation is FFh or the slot's own (R113). -/
def FreshGeneration (e : Byte) (w : Slot) : Prop := e = 0xFF#8 ∨ e.toNat = w.generation.val

theorem generationMatches_iff (e : Byte) (w : Slot) : generationMatches e w = true ↔ FreshGeneration e w := by
  simp [generationMatches, FreshGeneration]

theorem editable_iff (w : Slot) : w.editable = true ↔ w.state = .live ∨ w.state = .staged := by
  simp [Slot.editable]

section
variable {s : State} {n : SlotId} {e : Byte}

theorem retireResult_slotFree (hf : (s.slot n).state = .free) : retireResult s n e = .slotFree := if_pos hf

theorem retireResult_stale (hf : (s.slot n).state ≠ .free) (hg : ¬ FreshGeneration e (s.slot n)) :
    retireResult s n e = .stale := by
  rw [← generationMatches_iff, Bool.not_eq_true] at hg
  rw [retireResult, if_neg hf, if_pos hg]

theorem retireResult_wrongState (hs : (s.slot n).state = .marked ∨ (s.slot n).state = .draining)
    (hg : FreshGeneration e (s.slot n)) : retireResult s n e = .wrongState := by
  rw [← generationMatches_iff] at hg
  rcases hs with hs | hs <;> simp [retireResult, hs, hg, Slot.editable]

theorem retireResult_passes (hs : (s.slot n).state = .live ∨ (s.slot n).state = .staged)
    (hg : FreshGeneration e (s.slot n)) : retireResult s n e = .ok := by
  rw [← generationMatches_iff] at hg
  rcases hs with hs | hs <;> simp [retireResult, hs, hg, Slot.editable]

end

/-! ## Amending a window (R116, R117, R166) -/

/-- The parameters of an amendment in range (R166, check 1). -/
def AmendInRange (b p w v : Byte) : Prop := b.toNat < 64 ∧ p.toNat < 8 ∧ w.toNat < 16 ∧ v.toNat < 3

theorem cmdAmendWindow_badValue {b p w v : Byte} (h : ¬ AmendInRange b p w v) (e g : Byte) (s : State) :
    cmdAmendWindow b e p w g v s = reply [0x02#8, generationReply s b] s := by
  unfold cmdAmendWindow; split
  · next hb hp hw hv =>
    refine absurd ?_ h
    rw [readFin_eq_some] at hb hp hw
    rw [readWatch_eq, Option.ite_none_right_eq_some] at hv
    exact ⟨by omega, by omega, by omega, hv.1⟩
  · rfl

theorem cmdAmendWindow_inRange {b p w v : Byte} {n : SlotId} {pr : Fin 8} {wt : Fin 16} {x : Watch}
    (hn : b.toNat = n.val) (hp : p.toNat = pr.val) (hw : w.toNat = wt.val) (hv : readWatch v = some x) (e g : Byte)
    (s : State) : cmdAmendWindow b e p w g v s = amendSlot n e pr wt g x s := by
  rw [cmdAmendWindow, readFin_some hn, readFin_some hp, readFin_some hw, hv]

/-- The values of parameters in range. -/
theorem AmendInRange.read {b p w v : Byte} (h : AmendInRange b p w v) :
    ∃ (pr : Fin 8) (wt : Fin 16) (x : Watch), p.toNat = pr.val ∧ w.toNat = wt.val ∧ readWatch v = some x := by
  obtain ⟨_, hp, hw, hv⟩ := h
  exact ⟨⟨p.toNat, hp⟩, ⟨w.toNat, hw⟩, _, rfl, rfl, by rw [readWatch_eq, if_pos hv]⟩

theorem readWatch_of_mem {v : Byte} {x : Watch} (h : (v.toNat, x) ∈ [(0, Watch.off), (1, .writes), (2, .all)]) :
    readWatch v = some x := by
  simp only [List.mem_cons, Prod.mk.injEq, List.not_mem_nil, or_false] at h
  rcases h with ⟨hv, rfl⟩ | ⟨hv, rfl⟩ | ⟨hv, rfl⟩ <;> simp [readWatch_eq, hv]

/-- The amended precedence of a LIVE slot meets another window of the view (R116, R117). -/
def AmendClash (s : State) (n : SlotId) (p : Nat) : Prop :=
  (s.slot n).state = .live ∧ p ≠ (s.slot n).precedence.val ∧
    ∃ m, m ≠ n ∧ (s.slot m).inView = true ∧ p = (s.slot m).precedence.val ∧ (s.slot n).shares (s.slot m) = true

theorem amendClash_congr {s t : State} (h : ∀ n, t.slot n = s.slot n) (n : SlotId) (p : Nat) :
    AmendClash t n p ↔ AmendClash s n p := by
  simp only [AmendClash, h]

theorem conflictsWithView_some_iff {s : State} {n : SlotId} {w : Slot} : conflictsWithView s (some n) w = true ↔
    ∃ m, m ≠ n ∧ (s.slot m).inView = true ∧ w.conflicts (s.slot m) = true := by
  simp [conflictsWithView, allSlots, and_assoc, eq_comm (a := n)]

theorem amendClash_iff (s : State) (n : SlotId) (p : Fin 8) : AmendClash s n p.val ↔
    (s.slot n).state = .live ∧ p ≠ (s.slot n).precedence ∧
      conflictsWithView s (some n) { s.slot n with precedence := p } = true := by
  simp only [AmendClash, conflictsWithView_some_iff, conflicts_iff, ne_eq, Fin.ext_iff]
  rfl

/-- An amendment makes the checks of a retirement, and then the one for a clash (R166). -/
theorem amendResult_eq (s : State) (n : SlotId) (e : Byte) (p : Fin 8) : amendResult s n e p =
    if retireResult s n e = .ok then
      (if (s.slot n).state = .live ∧ p ≠ (s.slot n).precedence ∧
        conflictsWithView s (some n) { s.slot n with precedence := p } then .overlap else .ok)
    else retireResult s n e := by
  simp only [amendResult, retireResult]
  split
  · simp
  · split
    · simp
    · split <;> simp

section
variable {s : State} {b p w v e : Byte} {n : SlotId} (hn : b.toNat = n.val)
include hn

/-- A check that fails gives the reply its code and the slot's generation. -/
theorem cmdAmendWindow_refused {c : ResultCode} (hr : AmendInRange b p w v) (hc : c ≠ .ok)
    (h : ∀ pr : Fin 8, p.toNat = pr.val → amendResult s n e pr = c) (g : Byte) :
    cmdAmendWindow b e p w g v s = reply [c.toByte, BitVec.ofNat 8 (s.slot n).generation.val] s := by
  obtain ⟨pr, wt, x, hp, hw, hv⟩ := hr.read
  have result := h pr hp
  subst result
  rw [cmdAmendWindow_inRange hn hp hw hv]
  exact if_neg hc

theorem cmdAmendWindow_checked {c : ResultCode} (hr : AmendInRange b p w v) (hc : c ≠ .ok)
    (h : retireResult s n e = c) (g : Byte) :
    cmdAmendWindow b e p w g v s = reply [c.toByte, BitVec.ofNat 8 (s.slot n).generation.val] s :=
  cmdAmendWindow_refused hn hr hc (fun pr _ => by rw [amendResult_eq, h, if_neg hc]) g

theorem cmdAmendWindow_overlap (hr : AmendInRange b p w v) (h : retireResult s n e = .ok)
    (hc : AmendClash s n p.toNat) (g : Byte) :
    cmdAmendWindow b e p w g v s = reply [0x07#8, BitVec.ofNat 8 (s.slot n).generation.val] s :=
  cmdAmendWindow_refused (c := .overlap) hn hr (by simp) (fun pr hp => by
    rw [hp, amendClash_iff] at hc
    rw [amendResult_eq, if_pos h, if_pos hc]) g

theorem cmdAmendWindow_taken {pr : Fin 8} {wt : Fin 16} {x : Watch} (hp : p.toNat = pr.val) (hw : w.toNat = wt.val)
    (hv : readWatch v = some x) (h : retireResult s n e = .ok) (hc : ¬ AmendClash s n p.toNat) (g : Byte) :
    cmdAmendWindow b e p w g v s = reply [0x00#8, BitVec.ofNat 8 ((s.slot n).generation + 1).val]
      (s.setSlot n ((s.slot n).amend pr wt g x)) := by
  rw [hp, amendClash_iff] at hc
  rw [cmdAmendWindow_inRange hn hp hw hv, amendSlot_taken _ _ _ (by rw [amendResult_eq, if_pos h, if_neg hc])]
  rfl

end

/-- Settles O38: the refusals are the checks of a retirement and then the clash (`amendResult_eq`), and an amendment
that passes them writes the slot. -/
theorem amendRewritesFourFields : Obligations.AmendRewritesFourFields := by
  intro s b e p w g v h hb s₀ inRange refused
  have slot : ∀ m, s₀.slot m = s.slot m := takeCommandByte_slot _
  have slots : s₀.slots = s.slots := takeCommandByte_slots _
  rw [exec_amendWindow h hb]
  refine ⟨fun hn => ?_, fun n hn => ?_⟩
  · rw [cmdAmendWindow_badValue fun hr => absurd hr.1 (not_lt.mpr hn), generationReply_none _ hn]
  intro w₀ gen fresh clash
  have passes : w₀.state = .live ∨ w₀.state = .staged → fresh → retireResult s₀ n e = .ok := fun hs hg =>
    retireResult_passes (by rwa [slot]) (by rwa [slot])
  have clash_iff : AmendClash s₀ n p.toNat ↔ clash := amendClash_congr slot n p.toNat
  refine ⟨fun hr => ?_, fun hr hf => ?_, fun hr hf hg => ?_, fun hr hg hs => ?_, fun hr hg hc => ?_,
    fun pr wt x hr hp hw hx hg hs hc => ?_⟩
  · rw [cmdAmendWindow_badValue hr, generationReply_some _ hn, slot]
  · rw [cmdAmendWindow_checked hn hr (by simp) (retireResult_slotFree (by rwa [slot])), slot]; rfl
  · rw [cmdAmendWindow_checked hn hr (by simp) (retireResult_stale (by rwa [slot]) (by rwa [slot])), slot]; rfl
  · rw [cmdAmendWindow_checked hn hr (by simp) (retireResult_wrongState (by rwa [slot]) (by rwa [slot])), slot]; rfl
  · rw [cmdAmendWindow_overlap hn hr (passes (Or.inl hc.1) hg) (clash_iff.mpr hc), slot]
  · rw [cmdAmendWindow_taken hn hp hw (readWatch_of_mem hx) (passes hs hg) (fun hc' => hc (clash_iff.mp hc')),
      State.setSlot, slot, slots]
    rfl

/-! ## Retiring a window (R118, R119, R167) -/

theorem cmdRetireWindow_badValue {b x : Byte} (h : 64 ≤ b.toNat ∨ 2 ≤ x.toNat) (e : Byte) (s : State) :
    cmdRetireWindow b e x s = reply [0x02#8] s := by
  unfold cmdRetireWindow; split
  · next hb hx =>
    rw [readFin_eq_some] at hb
    rw [readYesNo_eq, Option.ite_none_right_eq_some] at hx
    omega
  · rfl

theorem cmdRetireWindow_inRange {b x : Byte} {n : SlotId} (hn : b.toNat = n.val) (hx : x.toNat < 2) (e : Byte)
    (s : State) : cmdRetireWindow b e x s = retireSlot n e (decide (x.toNat = 1)) s := by
  rw [cmdRetireWindow, readFin_some hn, readYesNo_eq, if_pos hx]

section
variable {s : State} {n : SlotId}

theorem retireSlot_refused {e : Byte} {c : ResultCode} (h : retireResult s n e = c) (hc : c ≠ .ok) (staged : Bool) :
    retireSlot n e staged s = reply [c.toByte] s := by
  subst h
  exact if_neg hc

theorem retireSlot_taken {e : Byte} (h : retireResult s n e = .ok) (staged : Bool) :
    retireSlot n e staged s = reply [0x00#8] (retireTaken n staged s) := if_pos h

theorem retireTaken_staged (h : (s.slot n).state = .staged) (staged : Bool) :
    retireTaken n staged s = freeSlot n s := if_pos h

theorem retireTaken_marks (h : (s.slot n).state = .live) :
    retireTaken n true s = s.setSlot n { s.slot n with state := .marked } := by
  simp [retireTaken, h]

theorem retireTaken_frees (h : (s.slot n).state = .live) (hb : (s.slot n).bound = 0) :
    retireTaken n false s = freeSlot n s := by
  simp [retireTaken, h, hb]

theorem retireTaken_drains (h : (s.slot n).state = .live) (hb : 0 < (s.slot n).bound) :
    retireTaken n false s = s.setSlot n { s.slot n with state := .draining } := by
  simp [retireTaken, h, hb.ne']

theorem freeSlot_eq (n : SlotId) (s : State) : freeSlot n s = { s with
    slots := s.slots.set n { s.slot n with state := .free }
    devices := s.devices.set (s.slot n).device
      { s.device (s.slot n).device with refCount := (s.device (s.slot n).device).refCount - 1 } } := rfl

end

/-- Settles O39: the refusals are the checks of `retireResult`, and a retirement that passes them frees or moves the
slot by its state, the option and its bound count. -/
theorem retireFollowsTheSlotState : Obligations.RetireFollowsTheSlotState := by
  intro s b e x h hb s₀ refused
  have slot : ∀ m, s₀.slot m = s.slot m := takeCommandByte_slot _
  have slots : s₀.slots = s.slots := takeCommandByte_slots _
  have device : ∀ d, s₀.device d = s.device d := takeCommandByte_device _
  have devices : s₀.devices = s.devices := takeCommandByte_devices _
  rw [exec_retireWindow h hb]
  refine ⟨fun hr => by rw [cmdRetireWindow_badValue hr], fun n hn hx => ?_⟩
  rw [cmdRetireWindow_inRange hn hx]
  intro w₀ fresh moved freed
  have moves : ∀ st, s₀.setSlot n { s₀.slot n with state := st } = moved st := fun st => by
    rw [State.setSlot, slot, slots]
  have frees : freeSlot n s₀ = freed := by simp only [freeSlot_eq, slot, slots, device, devices]; rfl
  have taken : w₀.state = .live ∨ w₀.state = .staged → fresh → ∀ staged,
      retireSlot n e staged s₀ = reply [0x00#8] (retireTaken n staged s₀) := fun hs hg staged =>
    retireSlot_taken (retireResult_passes (by rwa [slot]) (by rwa [slot])) staged
  refine ⟨fun hf => ?_, fun hf hg => ?_, fun hs hg => ?_, fun hs hg => ?_, fun hs hg h1 => ?_, fun hs hg h0 hz => ?_,
    fun hs hg h0 hp => ?_⟩
  · rw [retireSlot_refused (retireResult_slotFree (by rwa [slot])) (by simp)]; rfl
  · rw [retireSlot_refused (retireResult_stale (by rwa [slot]) (by rwa [slot])) (by simp)]; rfl
  · rw [retireSlot_refused (retireResult_wrongState (by rwa [slot]) (by rwa [slot])) (by simp)]; rfl
  · rw [taken (Or.inr hs) hg, retireTaken_staged (by rwa [slot]), frees]
  · rw [taken (Or.inl hs) hg, decide_eq_true h1, retireTaken_marks (by rwa [slot]), moves]
  · rw [taken (Or.inl hs) hg, decide_eq_false (by omega), retireTaken_frees (by rwa [slot]) (by rwa [slot]), frees]
  · rw [taken (Or.inl hs) hg, decide_eq_false (by omega), retireTaken_drains (by rwa [slot]) (by rwa [slot]), moves]

/-! ## The switch of a publish (R122, R124, R153) -/

theorem exec_publishCompletion {s : State} {left : Nat} (h : s.inReset = false)
    (hp : s.port.condition = .executing .publish { left := left, due := true }) :
    exec .publishCompletion s = .next (completePublish s.quiet) := by
  simp [exec, execPublishCompletion, event_running _ h, hp]

theorem completePublish_switches {s : State} (h : firstConflict s = none) : completePublish s =
    raise .done (reply [0x00#8, 0xFF#8, 0xFF#8] (applyPublish s)) := by
  rw [completePublish, h]; rfl

theorem applyPublish_frame (s : State) :
    applyPublish s = { s with slots := (applyPublish s).slots, devices := (applyPublish s).devices } := by
  rw [applyPublish]

theorem publish_eq (w : Slot) : w.publish = { w with state :=
    if w.state = .staged then .live
    else if w.state = .marked then (if w.bound = 0 then .free else .draining)
    else w.state } := by
  rw [publish_window]
  cases hs : w.state <;> simp [Slot.publish, hs]

/-- The counts of a lawful directory after the switch are its references (R55, R124). -/
theorem applyPublish_device_lawful {s : State} (h : ReferenceLaw s) (d : Device) :
    (applyPublish s).device d = { s.device d with refCount := references (applyPublish s) d } := by
  rw [applyPublish_device, applyPublish_references, h d]

theorem references_raise (c : Cause) (s : State) (d : Device) : references (raise c s) d = references s d := rfl

theorem references_reply (bs : List Byte) (s : State) (d : Device) : references (reply bs s) d = references s d := rfl

/-- Settles O41: the start is `cmdPublish`; the completion finds no conflict, and `applyPublish` makes the switch. -/
theorem publishSwitchesTheView : Obligations.PublishSwitchesTheView := by
  refine ⟨fun s h hb => exec_publish h hb, fun s left h law hp clear => ?_⟩
  have quietLaw : ReferenceLaw s.quiet := (sameRecords_quiet s).ages.references law
  refine ⟨_, exec_publishCompletion h hp, ?_, fun n => ?_, fun d => ?_⟩ <;>
    rw [completePublish_switches (s := s.quiet) (firstConflict_none clear)]
  · rw [applyPublish_frame]; rfl
  · rw [raise_slot, reply_slot, applyPublish_slot, publish_eq]; rfl
  · rw [raise_device, reply_device, applyPublish_device_lawful quietLaw, quiet_device, references_raise,
      references_reply]

/-! ## The first conflict of a publish (R122, R123) -/

/-- The first number of a range at which a search finds something. -/
theorem findSome?_finRange {α : Type} {k : Nat} {f : Fin k → Option α} {i : Fin k} {a : α} (h : f i = some a)
    (before : ∀ j, j < i → f j = none) : (List.finRange k).findSome? f = some a := by
  induction k with
  | zero => exact i.elim0
  | succ k ih =>
    rw [List.finRange_succ, List.findSome?_cons]
    cases i using Fin.cases with
    | zero => rw [h]
    | succ i =>
      rw [before 0 (Fin.succ_pos i), List.findSome?_map]
      exact ih h fun j hj => before j.succ (Fin.succ_lt_succ_iff.mpr hj)

theorem find?_finRange {k : Nat} {p : Fin k → Bool} {i : Fin k} (h : p i = true)
    (before : ∀ j, j < i → p j = false) : (List.finRange k).find? p = some i := by
  rw [List.find?_eq_findSome?_guard]
  exact findSome?_finRange (i := i) (by simp [h]) fun j hj => by simp [before j hj]

/-- The test of a STAGED slot against another slot of the new view (R122). -/
def clashesInNewView (s : State) (n m : SlotId) : Bool :=
  decide (m ≠ n) && ((s.slot m).state == .live || (s.slot m).state == .staged) && (s.slot n).conflicts (s.slot m)

theorem firstConflict_eq (s : State) : firstConflict s = allSlots.findSome? fun n =>
    if (s.slot n).state = .staged then (allSlots.find? (clashesInNewView s n)).map fun m => (n, m) else none := rfl

theorem clashesInNewView_iff (s : State) (n m : SlotId) : clashesInNewView s n m = true ↔
    n ≠ m ∧ ((s.slot m).state = .live ∨ (s.slot m).state = .staged) ∧ (s.slot n).conflicts (s.slot m) = true := by
  simp [clashesInNewView, and_assoc, eq_comm (a := m)]

theorem clashesInNewView_false {s : State} {n m : SlotId}
    (h : n ≠ m → (s.slot m).state = .live ∨ (s.slot m).state = .staged → (s.slot n).conflicts (s.slot m) = false) :
    clashesInNewView s n m = false := by
  rw [← Bool.not_eq_true, clashesInNewView_iff]
  rintro ⟨hne, hv, hc⟩
  rw [h hne hv] at hc
  cases hc

/-- The pair that a publish reports: no STAGED slot before its first has a conflict, and its first has none before its
second (R123). -/
theorem firstConflict_some {s : State} {n m : SlotId} (hn : (s.slot n).state = .staged)
    (hc : clashesInNewView s n m = true)
    (slotsBefore : ∀ k j, k < n → (s.slot k).state = .staged → clashesInNewView s k j = false)
    (othersBefore : ∀ j, j < m → clashesInNewView s n j = false) : firstConflict s = some (n, m) := by
  rw [firstConflict_eq]
  refine findSome?_finRange (i := n) ?_ fun k hk => ?_
  · have first : allSlots.find? (clashesInNewView s n) = some m := find?_finRange hc othersBefore
    rw [if_pos hn, first]; rfl
  · split
    · next hs =>
      rw [Option.map_eq_none_iff, List.find?_eq_none]
      exact fun j _ => by rw [slotsBefore k j hk hs]; simp
    · rfl

theorem completePublish_conflict {s : State} {n m : SlotId} (h : firstConflict s = some (n, m)) : completePublish s =
    raise .done (reply [0x08#8, BitVec.ofNat 8 n.val, BitVec.ofNat 8 m.val] s) := by
  rw [completePublish, h]; rfl

/-- Settles O42: the pair is the first of the test's order (`firstConflict_some`), and the completion reports it. -/
theorem publishReportsTheFirstConflict : Obligations.PublishReportsTheFirstConflict := by
  intro s left n m h hp newView hn hm hne hc slotsBefore othersBefore
  have first : firstConflict s.quiet = some (n, m) :=
    firstConflict_some hn ((clashesInNewView_iff _ n m).mpr ⟨hne, hm, hc⟩)
      (fun k j hk hs => clashesInNewView_false fun hkj hv => slotsBefore k j hk hkj hs hv)
      (fun j hj => clashesInNewView_false fun hnj hv => othersBefore j hj hnj hv)
  rw [exec_publishCompletion h hp, completePublish_conflict first]
  rfl

/-! ## Discarding the pending changes (R126, R169) -/

/-- The pending changes are the STAGED and the MARKED slots (R112). -/
theorem count_pendingChange (v : Vector Slot 64) : countSlots Slot.pendingChange v =
    countSlots (fun w => decide (w.state = .staged)) v + countSlots (fun w => decide (w.state = .marked)) v :=
  (countSlots_split fun n => by
    generalize v[n] = w
    cases h : w.state <;> simp [Slot.pendingChange, h]).symm

theorem discardAll_frame (s : State) :
    discardAll s = { s with slots := (discardAll s).slots, devices := (discardAll s).devices } := by
  rw [discardAll]

theorem discard_eq (w : Slot) : w.discard = { w with state :=
    if w.state = .staged then .free else if w.state = .marked then .live else w.state } := by
  rw [discard_window]
  cases hs : w.state <;> simp [Slot.discard, hs]

/-- A STAGED slot was not in the view, and a MARKED slot was (R19, R126). -/
theorem discard_inView (w : Slot) : w.discard.inView = w.inView := by
  rw [Bool.eq_iff_iff, inView_iff, inView_iff]
  cases hs : w.state <;> simp [Slot.discard, hs]

theorem discardAll_device_lawful {s : State} (h : ReferenceLaw s) (d : Device) :
    (discardAll s).device d = { s.device d with refCount := references (discardAll s) d } := by
  rw [discardAll_device, discardAll_references, h d]

/-- Settles O43: the reply counts the two kinds of pending change, and `discardAll` rewrites slots and counts. -/
theorem discardAbandonsThePendingChanges : Obligations.DiscardAbandonsThePendingChanges := by
  intro s h hb law s₀
  have slots : s₀.slots = s.slots := takeCommandByte_slots _
  have slot : ∀ n, s₀.slot n = s.slot n := takeCommandByte_slot _
  have device : ∀ d, s₀.device d = s.device d := takeCommandByte_device _
  have law₀ : ReferenceLaw s₀ := ((sameRecords_quiet s).ages.trans
    (sameRecords_takeCommandByte (s := s.quiet) hb).ages).references law
  refine ⟨discardAll s₀, ?_, discardAll_frame s₀, fun n => ?_, fun n => ?_, fun d => ?_⟩
  · rw [exec_discard h hb, cmdDiscard_eq, count_pendingChange, ← slots]; rfl
  · rw [discardAll_slot, discard_eq, slot]
  · rw [discardAll_slot, discard_inView, slot]
  · rw [discardAll_device_lawful law₀, device]

end Sys2Proof.Machine
end

section
/-! PROOF. PORN low: what is taken while it is low (O3), and what its fall drops (O4). -/

namespace Sys2Proof.Machine

/-! ## While PORN is low (R129) -/

/-- Every command but the two that R129 and R131 single out is an event, so PORN low shuts it out. -/
theorem exec_eq_event {c : Instr} (notEnd : ∀ x y z, c ≠ .endOfPowerOnReset x y z) (notRead : c ≠ .replyByteRead) :
    ∃ f : State → State, ∀ s, exec c s = event s f := by
  cases c with
  | endOfPowerOnReset x y z => exact absurd rfl (notEnd x y z)
  | replyByteRead => exact absurd rfl notRead
  | _ => exact ⟨_, fun s => by rw [exec]; rfl⟩

/-- A read of the data location while PORN is low shows a free value and uses it up (assumption 8). -/
theorem exec_replyByteRead_inReset {s : State} (h : s.inReset = true) : exec .replyByteRead s =
    .next { s.quiet with md := some (Config.undefinedByte s.freeCount), freeCount := s.freeCount + 1 } := by
  rw [exec, execReplyByteRead, if_pos h]

/-- Settles O3: the read of a reply byte shows its free value, and every other command is an event that is not taken. -/
theorem nothingIsTakenWhilePornIsLow : Obligations.NothingIsTakenWhilePornIsLow := by
  intro c s h notEnd
  by_cases read : c = .replyByteRead
  · subst read
    exact ⟨_, exec_replyByteRead_inReset h, rfl, fun notRead => absurd rfl notRead⟩
  · obtain ⟨f, taken⟩ := exec_eq_event notEnd read
    exact ⟨s.quiet, (taken s).trans (event_inReset f h), rfl, fun _ => rfl⟩

/-! ## PORN going low (R129) -/

theorem exec_powerOnReset {s : State} (h : s.inReset = false) : exec .powerOnReset s = .next (heldInReset s.quiet) :=
  event_running heldInReset h

theorem heldInReset_pen (s : State) (d : Device) : ((heldInReset s).device d).pen = false := by
  rw [heldInReset_device]; rfl

/-- MIRQ is inactive because the notify gate is closed (R143). -/
theorem heldInReset_mirq (s : State) : (heldInReset s).mirq = false := by
  have gate : (heldInReset s).gate = false := rfl
  rw [State.mirq, gate, Bool.false_and]

/-- Settles O4: the state held in reset has blank tables, empty lists and an IDLE port, and a new event starts without
the outputs of the earlier one. -/
theorem powerOnResetDropsEverything : Obligations.PowerOnResetDropsEverything := by
  intro s h
  exact ⟨heldInReset s.quiet, exec_powerOnReset h, rfl, rfl, heldInReset_claim s.quiet, rfl, rfl, rfl, rfl,
    heldInReset_pen s.quiet, heldInReset_mirq s.quiet, rfl, rfl, rfl⟩

end Sys2Proof.Machine
end

section
/-! PROOF. MIRQ and the status byte (O30), and the notification commands (O50). -/

namespace Sys2Proof.Machine

/-! ## The condition bits of the status byte (R149) -/

theorem paramWanted_iff (p : Port) : p.paramWanted = true ↔ ∃ c b, p.condition = .collecting c b := by
  unfold Port.paramWanted
  cases p.condition <;> simp

theorem replyReady_iff (p : Port) : p.replyReady = true ↔ ∃ b, p.condition = .replying b := by
  unfold Port.replyReady
  cases p.condition <;> simp

theorem busy_iff (p : Port) : p.busy = true ↔ ∃ op t, p.condition = .executing op t := by
  unfold Port.busy
  cases p.condition <;> simp

/-! ## The flags and MIRQ (R139, R143) -/

theorem flags_any_iff (f : CauseFlags) : f.any = true ↔
    f.intercept = true ∨ f.fault = true ∨ f.timeout = true ∨ f.done = true ∨ f.port = true := by
  simp only [CauseFlags.any, Bool.or_eq_true, or_assoc]

theorem flags_any_iff_ne_clear (f : CauseFlags) : f.any = true ↔ f ≠ .clear := by
  rw [flags_any_iff, ne_eq, CauseFlags.clear, CauseFlags.mk.injEq]
  simp only [← Bool.not_eq_true]
  tauto

theorem mirq_iff (s : State) : s.mirq = true ↔ s.gate = true ∧ (s.flags.both s.mask).any = true :=
  Bool.and_eq_true_iff

/-- Settles O30: the bits of the byte are its fields, each read off the port and the flags, and MIRQ is the gate and
a flag that is set and enabled. -/
theorem statusByteAndMirqFollowTheState : Obligations.StatusByteAndMirqFollowTheState := by
  intro s
  refine ⟨fun h read => ?_, ?_⟩
  · obtain ⟨collecting, replying, executing, notify, errors⟩ := statusFields_bits s
    rw [statusByte_running h, collecting, replying, executing, notify]
    exact ⟨paramWanted_iff s.port, replyReady_iff s.port, busy_iff s.port, flags_any_iff_ne_clear s.flags, errors⟩
  · simp only [mirq_iff, flags_any_iff, CauseFlags.both, Bool.and_eq_true]

/-! ## The notification commands (R140 to R142, R144, R175) -/

section
variable {s : State} (h : s.inReset = false) (hb : s.port.busy = false)
include h hb

theorem exec_setNotifyMask (b : Byte) :
    exec (.setNotifyMask b) s = .next (cmdSetNotifyMask b (takeCommandByte s.quiet)) :=
  event_sendWhole _ _ h hb

theorem exec_clearNotify (b : Byte) :
    exec (.clearNotify b) s = .next (cmdClearNotify b (takeCommandByte s.quiet)) :=
  event_sendWhole _ _ h hb

theorem exec_readNotify : exec .readNotify s = .next (cmdReadNotify (takeCommandByte s.quiet)) :=
  event_sendWhole _ _ h hb

end

/-- The flags that a flag byte names, bit by bit (Table 10-2). -/
def namedFlags (b : Byte) : CauseFlags :=
  { intercept := b.getLsbD 0, fault := b.getLsbD 1, timeout := b.getLsbD 2, done := b.getLsbD 3, port := b.getLsbD 4 }

theorem ofByte_inRange {b : Byte} (hb : b.toNat < 32) : CauseFlags.ofByte b = some (namedFlags b) := by
  rw [flags_ofByte_eq, if_pos hb, namedFlags]

theorem ofByte_outOfRange {b : Byte} (hb : 32 ≤ b.toNat) : CauseFlags.ofByte b = none := by
  rw [flags_ofByte_eq, if_neg (Nat.not_lt.mpr hb)]

theorem cmdSetNotifyMask_inRange {b : Byte} (hb : b.toNat < 32) (s : State) :
    cmdSetNotifyMask b s = reply [0x00#8] { s with gate := true, mask := namedFlags b } := by
  rw [cmdSetNotifyMask, ofByte_inRange hb]; rfl

theorem cmdSetNotifyMask_outOfRange {b : Byte} (hb : 32 ≤ b.toNat) (s : State) :
    cmdSetNotifyMask b s = reply [0x02#8] s := by
  rw [cmdSetNotifyMask, ofByte_outOfRange hb]; rfl

theorem cmdClearNotify_inRange {b : Byte} (hb : b.toNat < 32) (s : State) :
    cmdClearNotify b s = reply [0x00#8] { s with flags := s.flags.without (namedFlags b) } := by
  rw [cmdClearNotify, ofByte_inRange hb]; rfl

theorem cmdClearNotify_outOfRange {b : Byte} (hb : 32 ≤ b.toNat) (s : State) :
    cmdClearNotify b s = reply [0x02#8] s := by
  rw [cmdClearNotify, ofByte_outOfRange hb]; rfl

/-- The reply of READ NOTIFY: the result code, the flags, the mask and the gate (R144). -/
theorem cmdReadNotify_eq (s : State) : cmdReadNotify s =
    reply [0x00#8, s.flags.toByte, s.mask.toByte, if s.gate then 0x01#8 else 0x00#8] s := rfl

/-- The eight bits of a flag byte together: the five causes, and three bits that are clear (Table 10-2). -/
theorem toByte_bitTuple (f : CauseFlags) :
    (f.toByte.getLsbD 0, f.toByte.getLsbD 1, f.toByte.getLsbD 2, f.toByte.getLsbD 3, f.toByte.getLsbD 4,
      f.toByte.getLsbD 5, f.toByte.getLsbD 6, f.toByte.getLsbD 7) =
    (f.intercept, f.fault, f.timeout, f.done, f.port, false, false, false) := by
  obtain ⟨b0, b1, b2, b3, b4, b5, b6, b7⟩ := toByte_bits f
  rw [b0, b1, b2, b3, b4, b5, b6, b7]

/-- Settles O50: the three commands after the command byte, which changes neither the mask nor the gate. -/
theorem notifyCommandsActOnMaskFlagsAndGate : Obligations.NotifyCommandsActOnMaskFlagsAndGate := by
  intro s b h hb s₀
  have mask : s₀.mask = s.mask := takeCommandByte_mask _
  have gate : s₀.gate = s.gate := takeCommandByte_gate _
  rw [exec_setNotifyMask h hb, exec_clearNotify h hb, exec_readNotify h hb]
  refine ⟨fun inRange => ⟨?_, ?_⟩, fun outOfRange => ⟨?_, ?_⟩, s₀.flags.toByte, s₀.mask.toByte, ?_, ?_, ?_⟩
  · rw [cmdSetNotifyMask_inRange inRange, namedFlags]
  · rw [cmdClearNotify_inRange inRange]; rfl
  · rw [cmdSetNotifyMask_outOfRange outOfRange]
  · rw [cmdClearNotify_outOfRange outOfRange]
  · rw [cmdReadNotify_eq, gate]
  · exact toByte_bitTuple s₀.flags
  · rw [← mask]; exact toByte_bitTuple s₀.mask

end Sys2Proof.Machine
end

section
/-! PROOF. The management port byte by byte: the command byte (O24, O25), data accesses out of place (O26), the
parameter bytes (O27), the reply bytes (O28), and a command sent whole as its bytes (O29). -/

namespace Sys2Proof.Machine

/-! ## Writes of the command/status location (R150, R151, R156) -/

/-- While the port is EXECUTING a command byte is discarded (R156). -/
theorem writeCommand_busy {s : State} (h : s.port.busy = true) (b : Byte) : writeCommand b s = collide s := by
  obtain ⟨op, t, executing⟩ := (busy_iff s.port).mp h
  rw [writeCommand, executing]

/-- In every other condition it is taken (R150). -/
theorem writeCommand_taken {s : State} (h : s.port.busy = false) (b : Byte) : writeCommand b s = openRecord b s := by
  unfold writeCommand
  split
  · next executing => rw [Port.busy, executing] at h; cases h
  all_goals rfl

theorem openRecord_unknown {b : Byte} (h : CommandCode.ofByte b = none) (s : State) :
    openRecord b s = reply [0x01#8] (takeCommandByte s) := by
  rw [openRecord, h]; rfl

theorem openRecord_withoutParameters {b : Byte} {code : CommandCode} (hc : CommandCode.ofByte b = some code)
    (hn : code.paramCount = 0) (s : State) : openRecord b s = runRecord code [] (takeCommandByte s) := by
  rw [openRecord, hc]; exact if_pos hn

theorem exec_commandByte (s : State) (b : Byte) : exec (.commandByte b) s = event s (writeCommand b) := rfl

/-- UNKNOWN_COMMAND is a command byte like any other (R150). -/
theorem exec_unknownCommand (s : State) (b : Byte) : exec (.unknownCommand b) s = exec (.commandByte b) s := rfl

theorem exec_commandByte_busy {s : State} (h : s.inReset = false) (hb : s.port.busy = true) (b : Byte) :
    exec (.commandByte b) s = .next (collide s.quiet) := by
  rw [exec_commandByte, event_running _ h, writeCommand_busy (s := s.quiet) hb]

theorem exec_commandByte_taken {s : State} (h : s.inReset = false) (hb : s.port.busy = false) (b : Byte) :
    exec (.commandByte b) s = .next (openRecord b s.quiet) := by
  rw [exec_commandByte, event_running _ h, writeCommand_taken (s := s.quiet) hb]

/-- The state after a command byte that is taken, with the condition that it leaves the port in (R150, R151). -/
theorem takeCommandByte_withCondition (x : PortCondition) (s : State) :
    (takeCommandByte s).withCondition x = { s with
      port := { condition := x, orphan := false, collision := false, abandoned := s.port.paramWanted }
      flags := { s.flags with port := s.flags.port || s.port.paramWanted } } := by
  rw [takeCommandByte_eq]; rfl

theorem reply_eq_withCondition (bs : List Byte) (s : State) : reply bs s = s.withCondition (.replying bs) := rfl

/-- Settles O24: the port's own steps, then COLLECTING for a code with parameters, or the reply to an unknown code. -/
theorem commandByteOpensARecord : Obligations.CommandByteOpensARecord := by
  intro s b h hb taken
  refine ⟨takeCommandByte_eq s.quiet, fun code hc hn => ?_, fun unknown => ?_⟩
  · rw [exec_commandByte_opens h hb hc hn, takeCommandByte_withCondition]; rfl
  · have replied : exec (.commandByte b) s = taken (.replying [0x01#8]) := by
      rw [exec_commandByte_taken h hb, openRecord_unknown unknown, reply_eq_withCondition,
        takeCommandByte_withCondition]
      rfl
    exact ⟨replied, (exec_unknownCommand s b).trans replied⟩

/-! ## Accesses of the data location (R152, R154, R155) -/

theorem writeData_orphan {s : State} (h : ∀ code ps, s.port.condition ≠ .collecting code ps) (b : Byte) :
    writeData b s = orphan s := by
  unfold writeData
  split
  · next collecting => exact absurd collecting (h _ _)
  all_goals rfl

theorem exec_parameterByte_orphan {s : State} (h : s.inReset = false)
    (hc : ∀ code ps, s.port.condition ≠ .collecting code ps) (b : Byte) :
    exec (.parameterByte b) s = .next (orphan s.quiet) := by
  rw [exec, execParameterByte, event_running _ h, writeData_orphan (s := s.quiet) hc]

/-- A port that is EXECUTING collects no command (R148). -/
theorem not_collecting_of_busy {p : Port} (h : p.busy = true) (code : CommandCode) (ps : List Byte) :
    p.condition ≠ .collecting code ps := by
  obtain ⟨op, t, executing⟩ := (busy_iff p).mp h
  rw [executing]; exact PortCondition.noConfusion

theorem readData_orphan {s : State} (h : ∀ b rest, s.port.condition ≠ .replying (b :: rest)) :
    readData s = { orphan s with md := some 0x00#8 } := by
  unfold readData
  split
  · next replying => exact absurd replying (h _ _)
  all_goals rfl

theorem afterReplyByte_eq (rest : List Byte) :
    afterReplyByte rest = if rest = [] then .idle else .replying rest := by
  cases rest <;> rfl

theorem readData_replying {s : State} {b : Byte} {rest : List Byte} (h : s.port.condition = .replying (b :: rest)) :
    readData s = { s with
      md := some b
      port := { s.port with condition := if rest = [] then .idle else .replying rest } } := by
  rw [readData, h, ← afterReplyByte_eq]

theorem exec_replyByteRead_running {s : State} (h : s.inReset = false) :
    exec .replyByteRead s = .next (readData s.quiet) := by
  rw [exec, execReplyByteRead, h]; rfl

/-- Settles O25: both kinds of access while the port is EXECUTING raise PORT with an error field of their own. -/
theorem commandByteCollidesWhileExecuting : Obligations.CommandByteCollidesWhileExecuting := by
  intro s b h hb raised
  have collided := exec_commandByte_busy h hb b
  exact ⟨collided, (exec_unknownCommand s b).trans collided, exec_parameterByte_orphan h (not_collecting_of_busy hb) b⟩

/-- Settles O26: a write where no record is open, and a read where no reply byte is left. -/
theorem dataAccessOutOfPlaceIsOrphan : Obligations.DataAccessOutOfPlaceIsOrphan := by
  intro s b h t
  refine ⟨fun hc => exec_parameterByte_orphan h hc b, fun hr => ?_⟩
  rw [exec_replyByteRead_running h, readData_orphan (s := s.quiet) hr]
  rfl

/-- A management command sent whole whose command byte is taken is one decoder call on its own bytes (R152). -/
theorem exec_wholeCommand_taken {s : State} {c : Instr} {code : CommandCode} {params : List Byte}
    (h : s.inReset = false) (hb : s.port.busy = false) (hw : commandBytes c = some (code, params)) :
    exec c s = .next (runRecord code params (takeCommandByte s.quiet)) := by
  rw [exec_wholeCommand s hw, event_sendWhole _ _ h hb]

/-- Settles O27: a byte before the last, the last byte, and the record of a command sent whole. -/
theorem parameterByteIsCollected : Obligations.ParameterByteIsCollected := by
  refine ⟨fun s b code params h hs => ⟨fun more => ?_, fun last => ?_⟩,
    fun s c code params h hb hw => exec_wholeCommand_taken h hb hw⟩
  · rw [exec_parameterByte h hs, addParameter_more more]; rfl
  · rw [exec_parameterByte h hs, addParameter_last last]; rfl

/-- Settles O28: the oldest byte goes out on MD, and the port is IDLE when it was the last. -/
theorem replyBytesAreReadInOrder : Obligations.ReplyBytesAreReadInOrder := by
  intro s b rest h hr
  rw [exec_replyByteRead_running h, readData_replying (s := s.quiet) hr]
  rfl

/-! ## A command sent whole and its bytes one by one (R150, R152, R155, R156) -/

/-- Each code of Table 10-1 names its command. -/
theorem ofByte_toByte (code : CommandCode) : CommandCode.ofByte code.toByte = some code := by
  cases code <;> rfl

/-- Commands that each leave a state as it is leave it so together. -/
theorem runAll_of_fixed {cs : List Instr} {s : State} (h : ∀ c ∈ cs, exec c s = .next s) :
    runAll cs s = .next s := by
  induction cs with
  | nil => rfl
  | cons c cs ih =>
    rw [runAll_cons (h c List.mem_cons_self)]
    exact ih fun d hd => h d (List.mem_cons_of_mem c hd)

/-- No byte of a command is taken while PORN is low (R129). -/
theorem runAll_bytes_inReset {s : State} (h : s.inReset = true) (b : Byte) (params : List Byte) :
    runAll (.commandByte b :: params.map .parameterByte) s = .next s.quiet := by
  rw [runAll_cons ((exec_commandByte s b).trans (event_inReset _ h))]
  refine runAll_of_fixed fun c hc => ?_
  obtain ⟨x, -, rfl⟩ := List.mem_map.mp hc
  exact event_inReset (s := s.quiet) (writeData x) h

/-- Setting ORPHAN and PORT again changes nothing, so data writes out of place come to the same as one (R155). -/
theorem runAll_parameterBytes_orphan {s : State} (h : s.inReset = false)
    (hc : ∀ code ps, s.port.condition ≠ .collecting code ps) (b : Byte) (bs : List Byte) :
    runAll ((b :: bs).map .parameterByte) s = .next (orphan s.quiet) := by
  rw [List.map_cons, runAll_cons (exec_parameterByte_orphan h hc b)]
  refine runAll_of_fixed fun c hm => ?_
  obtain ⟨x, -, rfl⟩ := List.mem_map.mp hm
  exact exec_parameterByte_orphan (s := orphan s.quiet) h hc x

/-- The bytes of a command while the port is EXECUTING: COLLISION, and ORPHAN where there are parameters. -/
theorem runAll_bytes_busy {s : State} {code : CommandCode} {params : List Byte} (h : s.inReset = false)
    (hb : s.port.busy = true) (hn : params.length = code.paramCount) (b : Byte) :
    runAll (.commandByte b :: params.map .parameterByte) s =
      .next (if code.paramCount = 0 then collide s.quiet else orphan (collide s.quiet)) := by
  rw [runAll_cons (exec_commandByte_busy h hb b), ← hn]
  cases params with
  | nil => rfl
  | cons x xs => exact runAll_parameterBytes_orphan (s := collide s.quiet) h (not_collecting_of_busy hb) x xs

theorem takeCommandByte_withCondition_idle (s : State) :
    (takeCommandByte s).withCondition .idle = takeCommandByte s := by
  rw [takeCommandByte_withCondition, takeCommandByte_eq]

/-- The bytes of a command that are taken: the record is opened, filled and handed to the decoder. -/
theorem runAll_bytes_taken {s : State} {code : CommandCode} {params : List Byte} (h : s.inReset = false)
    (hb : s.port.busy = false) (hn : params.length = code.paramCount) :
    runAll (.commandByte code.toByte :: params.map .parameterByte) s =
      .next (runRecord code params (takeCommandByte s.quiet)) := by
  cases params with
  | nil =>
    rw [runAll_cons (exec_commandByte_taken h hb _), openRecord_withoutParameters (ofByte_toByte code) hn.symm]
    rfl
  | cons x xs =>
    have parameters : 0 < code.paramCount := hn ▸ Nat.succ_pos _
    have running : ((takeCommandByte s.quiet).withCondition (.collecting code [])).inReset = false :=
      (takeCommandByte_inReset _).trans h
    rw [runAll_cons (exec_commandByte_opens h hb (ofByte_toByte code) parameters),
      runAll_parameterBytes running (withCondition_condition ..) ((Nat.zero_add _).trans hn), List.nil_append,
      withCondition_quiet, withCondition_withCondition, takeCommandByte_quiet, quiet_quiet,
      takeCommandByte_withCondition_idle]

/-- Settles O29: the bytes and the whole command agree with PORN low, with the port EXECUTING, and where the command
byte is taken. -/
theorem wholeCommandIsItsBytes : Obligations.WholeCommandIsItsBytes := by
  intro s c code params hw
  have hn := commandBytes_length hw
  refine ⟨ofByte_toByte code, hn, ?_⟩
  cases h : s.inReset with
  | true => rw [runAll_bytes_inReset h, exec_wholeCommand s hw, event_inReset _ h]
  | false =>
    cases hb : s.port.busy with
    | true =>
      rw [runAll_bytes_busy h hb hn, exec_wholeCommand s hw, event_running _ h, sendWhole_busy (s := s.quiet) _ _ hb]
    | false => rw [runAll_bytes_taken h hb hn, exec_wholeCommand_taken h hb hw]

end Sys2Proof.Machine
end

section
/-! PROOF. IDENTIFY and READ DEVICE (O31). -/

namespace Sys2Proof.Machine

section
variable {s : State} (h : s.inReset = false) (hb : s.port.busy = false)
include h hb

theorem exec_identify : exec .identify s = .next (cmdIdentify (takeCommandByte s.quiet)) :=
  event_sendWhole _ _ h hb

theorem exec_readDevice (b : Byte) :
    exec (.readDevice b) s = .next (withDevice b readDevice (takeCommandByte s.quiet)) :=
  event_sendWhole _ _ h hb

end

/-- The eleven bytes of a record, with the device options byte by its bits (R164, Table 10-2). -/
theorem deviceReply_eq (r : DeviceRecord) : deviceReply r =
    [0x00#8, residencyByte r.residency, BitVec.ofNat 8 r.wakeTime, BitVec.ofNat 8 r.idleLimit,
     BitVec.ofNat 8 (r.idleLimit / 256), BitVec.ofNat 8 (timerLeft r.idleTimer),
     BitVec.ofNat 8 (timerLeft r.idleTimer / 256),
     (if r.autoWake then 0x01#8 else 0x00#8) +
       (if r.sense = .high then 0x02#8 else if r.sense = .low then 0x04#8 else 0x00#8),
     BitVec.ofNat 8 r.refCount, BitVec.ofNat 8 r.heldCount, faultCauseByte r.faultCause] := by
  rw [deviceReply, deviceOptionsByte_eq]; rfl

/-- Settles O31: the two commands after the command byte, which changes neither the straps nor a device record. -/
theorem identifyAndReadDeviceReport : Obligations.IdentifyAndReadDeviceReport := by
  intro s b h hb s₀
  have straps : s₀.straps = s.straps := takeCommandByte_straps _
  rw [exec_identify h hb, exec_readDevice h hb]
  refine ⟨?_, fun d hd => ?_, fun outOfRange => ?_⟩
  · rw [cmdIdentify, straps]; rfl
  · have device : s₀.device d = s.device d := takeCommandByte_device _ d
    rw [withDevice_inRange hd, readDevice, device, deviceReply_eq]
  · rw [withDevice_outOfRange outOfRange]

end Sys2Proof.Machine
end

section
/-! PROOF. One step (O1): the queue's front command, and idling on an empty queue. -/

namespace Sys2Proof.Machine

theorem step_of_cons {s : State} {c : Instr} {rest : List Instr} (h : s.pending = c :: rest) :
    step s = exec c { s with pending := rest } := by
  rw [step, h]

theorem step_of_nil {s : State} (h : s.pending = []) : step s = .next s := by
  rw [step, h]

/-- Settles O1: the two cases of the queue. -/
theorem stepRunsTheFrontCommand : Obligations.StepRunsTheFrontCommand :=
  ⟨fun _ _ _ => step_of_cons rfl, fun _ => step_of_nil⟩

end Sys2Proof.Machine
end

section
/-! PROOF. Every command answers a next state, and no effect of a command touches the queue (O2). -/

namespace Sys2Proof.Machine

/-! ## Placing and answering a claim -/

@[simp] theorem giveAnswer_pending (m : Master) (r : Reason) (x : DataWord) (s : State) :
    (giveAnswer m r x s).pending = s.pending := rfl

@[simp] theorem raiseBound_pending (n : SlotId) (s : State) : (raiseBound n s).pending = s.pending := rfl

@[simp] theorem enterReady_pending (m : Master) (a : Access) (s : State) :
    (enterReady m a s).pending = s.pending := rfl

@[simp] theorem enterHold_pending (m : Master) (a : Access) (s : State) : (enterHold m a s).pending = s.pending := rfl

@[simp] theorem enterIntercept_pending (m : Master) (a : Access) (s : State) :
    (enterIntercept m a s).pending = s.pending := rfl

@[simp] theorem startWake_pending (d : Device) (s : State) : (startWake d s).pending = s.pending := rfl

@[simp] theorem powerOff_pending (d : Device) (s : State) : (powerOff d s).pending = s.pending := rfl

@[simp] theorem answerClaim_pending (m : Master) (a : Access) (r : Reason) (x : DataWord) (s : State) :
    (answerClaim m a r x s).pending = s.pending := by
  rw [answerClaim_frame]

@[simp] theorem answerAll_pending (ms : List Master) (r : Reason) (s : State) :
    (answerAll ms r s).pending = s.pending := by
  induction ms generalizing s with
  | nil => rfl
  | cons m ms ih =>
    rw [answerAll_cons, ih]
    unfold answerMaster; split
    · exact answerClaim_pending ..
    · rfl

@[simp] theorem residencyStep_pending (m : Master) (a : Access) (s : State) :
    (residencyStep m a s).pending = s.pending := by
  rcases residencyStep_cases m a s with ⟨_, h⟩ | ⟨_, h⟩ | ⟨_, h⟩ | ⟨_, r, _, h⟩ <;> rw [h]
  · exact enterReady_pending ..
  · exact enterHold_pending ..
  · rw [enterHold_pending, startWake_pending]
  · exact answerClaim_pending ..

@[simp] theorem decideClaim_pending (m : Master) (a : Address) (dir : Direction) (w : Width) (x : DataWord)
    (s : State) : (decideClaim m a dir w x s).pending = s.pending := by
  unfold decideClaim; split
  · exact giveAnswer_pending ..
  · exact giveAnswer_pending ..
  · exact residencyStep_pending ..
  · simp only; split
    · rw [answerClaim_pending, raiseBound_pending]
    · split
      · rw [enterIntercept_pending, raiseBound_pending]
      · rw [residencyStep_pending, raiseBound_pending]

@[simp] theorem takeClaim_pending (m : Master) (a : Address) (dir : Direction) (w : Width) (x : DataWord) (s : State) :
    (takeClaim m a dir w x s).pending = s.pending := by
  unfold takeClaim; simp only; split
  · rw [giveAnswer_pending, setMarker_pending]
  · rw [decideClaim_pending, setMarker_pending]

/-! ## The bus, the devices and the resets -/

@[simp] theorem complete_pending (m : Master) (a : Access) (dd : DataWord) (s : State) :
    (complete m a dd s).pending = s.pending := by
  rw [complete, endPark_eq, reloadIdle_eq]
  exact answerClaim_pending ..

@[simp] theorem enterOn_pending (d : Device) (s : State) : (enterOn d s).pending = s.pending := by rw [enterOn_eq]

@[simp] theorem samplePgd_pending (d : Device) (level : Bool) (s : State) :
    (samplePgd d level s).pending = s.pending := rfl

@[simp] theorem enterFault_pending (d : Device) (cause : FaultCause) (ms : List Master) (s : State) :
    (enterFault d cause ms s).pending = s.pending := by
  rw [enterFault, raise_pending, setDevice_pending, answerAll_pending]

@[simp] theorem endWake_pending (d : Device) (level : Bool) (s : State) :
    (endWake d level s).pending = s.pending := by
  unfold endWake; simp only; split
  · rw [enterOn_pending, samplePgd_pending]
  · rw [enterFault_pending, samplePgd_pending]

@[simp] theorem endIdle_pending (d : Device) (s : State) : (endIdle d s).pending = s.pending := by
  unfold endIdle; split
  · exact setDevice_pending ..
  · exact powerOff_pending ..

@[simp] theorem losePower_pending (d : Device) (s : State) : (losePower d s).pending = s.pending := by
  rw [losePower, enterFault_pending]

@[simp] theorem busReset_pending (s : State) : (busReset s).pending = s.pending := by rw [busReset_frame]

@[simp] theorem completeSoftReset_pending (s : State) : (completeSoftReset s).pending = s.pending := by
  rw [completeSoftReset_frame]

/-! ## The management port -/

@[simp] theorem applyVerdict_pending (v : Verdict) (m : Master) (c : Claim) (x : DataWord) (s : State) :
    (applyVerdict v m c x s).pending = s.pending := by
  cases v with
  | pass => exact residencyStep_pending ..
  | refuse => exact answerClaim_pending ..
  | supply => exact (answerClaim_pending ..).trans (setClaim_pending ..)

@[simp] theorem retireTaken_pending (n : SlotId) (staged : Bool) (s : State) :
    (retireTaken n staged s).pending = s.pending := by
  have freed : (freeSlot n s).pending = s.pending := by rw [freeSlot_frame]
  unfold retireTaken; split
  · exact freed
  · split
    · exact setSlot_pending ..
    · split
      · exact freed
      · exact setSlot_pending ..

@[simp] theorem writeMissPolicy_pending (p : MissPolicy) (d : Device) (w : Fin 16) (s : State) :
    (writeMissPolicy p d w s).pending = s.pending := by
  rw [writeMissPolicy_frame]

@[simp] theorem cmdSoftReset_pending (s : State) : (cmdSoftReset s).pending = s.pending := by
  rw [cmdSoftReset_eq]
  exact answerAll_pending ..

theorem pending_commandEffects (s : State) : CommandEffects (fun t => t.pending = s.pending) s where
  nothing := rfl
  defined _ _ _ _ _ _ := setDevice_pending ..
  forgotten _ _ _ := setDevice_pending ..
  woken d _ := startWake_pending d s
  reentered d _ := enterOn_pending d s
  parking _ _ _ := setDevice_pending ..
  parked d _ := powerOff_pending d s
  cleared _ _ := setDevice_pending ..
  opened _ _ _ := rfl
  amended _ _ _ _ _ _ _ := setSlot_pending ..
  retired n staged _ := retireTaken_pending n staged s
  untouched _ := setSlot_pending ..
  discarded := by rw [discardAll_frame]
  verdict v m c x _ := applyVerdict_pending v m c x s
  policy p d w _ := writeMissPolicy_pending p d w s
  limits _ _ := rfl
  mask _ := rfl
  flags _ := rfl

@[simp] theorem runRecord_pending (code : CommandCode) (params : List Byte) (s : State) :
    (runRecord code params s).pending = s.pending :=
  runRecord_of (Q := fun t => t.pending = s.pending)
    ((pending_commandEffects s).decoder (fun bs t ht => (reply_pending t bs).trans ht) rfl (cmdSoftReset_pending s))
    code params

@[simp] theorem readData_pending (s : State) : (readData s).pending = s.pending := by
  unfold readData; split <;> rfl

@[simp] theorem completePublish_pending (s : State) : (completePublish s).pending = s.pending := by
  unfold completePublish; split
  · rw [raise_pending, reply_pending]
  · rw [raise_pending, reply_pending, applyPublish_frame]

/-! ## Every command -/

/-- No effect of a command on a running state touches the queue (assumption 11). -/
theorem pending_effects (c : Instr) (s : State) : Effects c (fun t => t.pending = s.pending) s where
  nothing := rfl
  arrival m a dir w x _ _ := takeClaim_pending m a dir (widthOfCwid w) x s
  grant _ _ _ _ _ := rfl
  completion cy cl dd _ := complete_pending cy.master cl.access dd s
  tick := rfl
  wake d level := endWake_pending d level s
  idle d := endIdle_pending d s
  hold _ _ _ := (raise_pending ..).trans (answerClaim_pending ..)
  intercept _ _ _ := ((raise_pending ..).trans (setMarker_pending ..)).trans (answerClaim_pending ..)
  departure _ _ := (losePower_pending ..).trans (samplePgd_pending ..)
  low _ := rfl
  bus _ := busReset_pending s
  collided := rfl
  orphaned := rfl
  misused := rfl
  unknown := (reply_pending ..).trans (takeCommandByte_pending s)
  command _ _ := (runRecord_pending ..).trans (takeCommandByte_pending s)
  opened _ _ := takeCommandByte_pending s
  collected _ _ _ _ := rfl
  lastByte _ _ := runRecord_pending ..
  read := readData_pending s
  published := completePublish_pending s
  rebuilt := completeSoftReset_pending s

theorem exec_pending {c : Instr} {s t : State} (h : exec c s = .next t) : t.pending = s.pending := by
  cases running : s.inReset with
  | false => exact exec_of_effects (pending_effects c s.quiet) running h
  | true =>
    rcases exec_inReset running h with passed | ⟨x, rfl⟩
    · rw [passed]; rfl
    · rfl

/-- The two commands that are no event answer a next state as every event does, so none faults or is refused. -/
theorem exec_answers_next (c : Instr) (s : State) : ∃ t, exec c s = .next t := by
  by_cases ends : ∃ bsz bwt bpg, c = .endOfPowerOnReset bsz bwt bpg
  · obtain ⟨bsz, bwt, bpg, rfl⟩ := ends
    exact ⟨_, rfl⟩
  · by_cases read : c = .replyByteRead
    · subst read
      exact ⟨_, rfl⟩
    · obtain ⟨f, taken⟩ := exec_eq_event (fun bsz bwt bpg same => ends ⟨bsz, bwt, bpg, same⟩) read
      exact ⟨_, taken s⟩

/-- Settles O2: a command always answers a next state, and each of its effects keeps the queue. -/
theorem everyCommandAnswersANextState : Obligations.EveryCommandAnswersANextState := by
  intro c s
  obtain ⟨t, next⟩ := exec_answers_next c s
  exact ⟨t, next, exec_pending next⟩

end Sys2Proof.Machine
end
